-- ==== Sys2Proof/Word.lean ====
section
/-!
DEFINITION. The word types of the block (spec/00_scope.md R6: every value is an unsigned
integer of a stated width; spec/10_state.md R10 to R26; spec/30_encoding.md R60).
-/

namespace Sys2Proof

/-- One cell of DMEM or SHEET (spec/20_memory.md R40, R41). -/
abbrev Byte := BitVec 8

/-- A DMEM address, ADDR_W = 16 bits (spec/00_scope.md R4). -/
abbrev Addr := BitVec 16

/-- A command word of the port, 20 bits (spec/30_encoding.md R60). -/
abbrev CmdWord := BitVec 20

end Sys2Proof
end

