-- ==== Sys2Proof/Syntax.lean ====
section
/-!
DEFINITION. The operations of the block: one constructor per row of spec/opcode_table.json.
Every operand has the width of its field (spec/30_encoding.md R62), so no operand can be
ill-formed; the legal ranges of R62 are run-time checks of the commands themselves.
-/

namespace Sys2Proof

/-- A host command (format CMD), a micro-step of the frame-copy sequencer (ASEQ) or a
micro-step of the scanner (SSEQ). -/
inductive Instr where
  /-- INIT: start the block (spec/40_anim_commands.md R82). -/
  | init
  /-- SELECT id: choose the current animation (spec/40_anim_commands.md R83). -/
  | select (id : BitVec 8)
  /-- SETRATE ms: override the refresh interval (spec/40_anim_commands.md R84). -/
  | setrate (ms : BitVec 16)
  /-- SHOWICON icon, enabled: show or hide one icon (spec/40_anim_commands.md R85). -/
  | showicon (icon : BitVec 2) (enabled : Bool)
  /-- UPDATE: one tick (spec/41_update_framecopy.md R100). -/
  | update
  /-- SETBUF ptr: register the scanned buffer (spec/43_buffer_handoff.md R150). -/
  | setbuf (ptr : BitVec 16)
  /-- COPYB: copy one byte of the frame (spec/41_update_framecopy.md R103). -/
  | copyb
  /-- OVLB: apply one icon (spec/41_update_framecopy.md R104). -/
  | ovlb
  /-- SHIFT3 (spec/42_scan_engine.md R123). -/
  | shift3
  /-- SHIFT2 (spec/42_scan_engine.md R124). -/
  | shift2
  /-- SHIFT1 (spec/42_scan_engine.md R125). -/
  | shift1
  /-- SHIFT0 (spec/42_scan_engine.md R126). -/
  | shift0
  /-- OEOFF: blank the rows (spec/42_scan_engine.md R127). -/
  | oeoff
  /-- LATHI: raise the latch line (spec/42_scan_engine.md R128). -/
  | lathi
  /-- LATWAIT: hold the latch line (spec/42_scan_engine.md R129). -/
  | latwait
  /-- LATLO: drop the latch line (spec/42_scan_engine.md R130). -/
  | latlo
  /-- ROWSEL: select the row-group (spec/42_scan_engine.md R131). -/
  | rowsel
  /-- OEON: light the rows (spec/42_scan_engine.md R132). -/
  | oeon
  /-- ADV: advance the scanline (spec/42_scan_engine.md R133). -/
  | adv
  /-- SLEEP: wait out the scan period (spec/42_scan_engine.md R134, R135). -/
  | sleep
deriving DecidableEq, Repr

end Sys2Proof
end

