-- ==== Sys2Proof/Decode.lean ====
section
/-!
DEFINITION. The three selectors of an operation, the decoder and the encoder
(spec/30_encoding.md R60 to R67, R74), and the host's view of the opcode table.
-/

namespace Sys2Proof

/-- What selects an operation: a word at the command port (format CMD, R60), the register AP
(format ASEQ, R67) or the register PH (format SSEQ, R66). -/
inductive Code where
  | cmd (w : CmdWord)
  | aseq (ap : BitVec 2)
  | sseq (ph : BitVec 4)
deriving DecidableEq, Repr

/-- Why a selector selects no operation. -/
inductive Reserved where
  /-- `op` = 0x0 or 0x7..0xF (R64). -/
  | opcode
  /-- A must-be-zero bit is 1 (R64, R65). -/
  | mustBeZero
  /-- AP = 0: IDLE, no micro-step (R67). -/
  | idle
  /-- AP = 3: unreachable (R67). -/
  | apUnreachable
  /-- PH = 12..15: unreachable (R66). -/
  | phUnreachable
deriving DecidableEq, Repr

/-- The field `op` of a command word, bits 19:16 (R60). -/
def cmdOp (w : CmdWord) : BitVec 4 := w.extractLsb' 16 4

/-- The field `arg` of a command word, bits 15:0 (R60). -/
def cmdArg (w : CmdWord) : BitVec 16 := w.extractLsb' 0 16

/-- A command word from its two fields (R60). -/
def cmdWord (op : BitVec 4) (arg : BitVec 16) : CmdWord := op ++ arg

/-- Decode a command word (R61, R62); must-be-zero bits are checked, not ignored (R65). -/
def decodeCmd (w : CmdWord) : Except Reserved Instr :=
  let arg := cmdArg w
  match (cmdOp w).toNat with
  | 1 => if arg = 0 then .ok .init else .error .mustBeZero
  | 2 => if arg.extractLsb' 8 8 = 0 then .ok (.select (arg.extractLsb' 0 8)) else .error .mustBeZero
  | 3 => .ok (.setrate arg)
  | 4 =>
    if arg.extractLsb' 3 13 = 0 then .ok (.showicon (arg.extractLsb' 0 2) (arg.getLsbD 2))
    else .error .mustBeZero
  | 5 => if arg = 0 then .ok .update else .error .mustBeZero
  | 6 => .ok (.setbuf arg)
  | _ => .error .opcode

/-- Decode the frame-copy sequencer's position (R67). -/
def decodeAseq (ap : BitVec 2) : Except Reserved Instr :=
  match ap.toNat with
  | 0 => .error .idle
  | 1 => .ok .copyb
  | 2 => .ok .ovlb
  | _ => .error .apUnreachable

/-- Decode the scanner's phase (R66). -/
def decodeSseq (ph : BitVec 4) : Except Reserved Instr :=
  match ph.toNat with
  | 0 => .ok .shift3
  | 1 => .ok .shift2
  | 2 => .ok .shift1
  | 3 => .ok .shift0
  | 4 => .ok .oeoff
  | 5 => .ok .lathi
  | 6 => .ok .latwait
  | 7 => .ok .latlo
  | 8 => .ok .rowsel
  | 9 => .ok .oeon
  | 10 => .ok .adv
  | 11 => .ok .sleep
  | _ => .error .phUnreachable

/-- The operation a selector selects, or the name of what it is reserved for. -/
def decode : Code → Except Reserved Instr
  | .cmd w => decodeCmd w
  | .aseq ap => decodeAseq ap
  | .sseq ph => decodeSseq ph

/-- The selector of an operation, from the encoding tables of R62, R66 and R67. -/
def encode : Instr → Code
  | .init => .cmd (cmdWord 0x1 0)
  | .select id => .cmd (cmdWord 0x2 (0#8 ++ id))
  | .setrate ms => .cmd (cmdWord 0x3 ms)
  | .showicon icon enabled => .cmd (cmdWord 0x4 (0#13 ++ BitVec.ofBool enabled ++ icon))
  | .update => .cmd (cmdWord 0x5 0)
  | .setbuf ptr => .cmd (cmdWord 0x6 ptr)
  | .copyb => .aseq 1
  | .ovlb => .aseq 2
  | .shift3 => .sseq 0
  | .shift2 => .sseq 1
  | .shift1 => .sseq 2
  | .shift0 => .sseq 3
  | .oeoff => .sseq 4
  | .lathi => .sseq 5
  | .latwait => .sseq 6
  | .latlo => .sseq 7
  | .rowsel => .sseq 8
  | .oeon => .sseq 9
  | .adv => .sseq 10
  | .sleep => .sseq 11

/-- The mnemonic of an operation in spec/opcode_table.json. -/
def mnemonic : Instr → String
  | .init => "INIT"
  | .select _ => "SELECT"
  | .setrate _ => "SETRATE"
  | .showicon _ _ => "SHOWICON"
  | .update => "UPDATE"
  | .setbuf _ => "SETBUF"
  | .copyb => "COPYB"
  | .ovlb => "OVLB"
  | .shift3 => "SHIFT3"
  | .shift2 => "SHIFT2"
  | .shift1 => "SHIFT1"
  | .shift0 => "SHIFT0"
  | .oeoff => "OEOFF"
  | .lathi => "LATHI"
  | .latwait => "LATWAIT"
  | .latlo => "LATLO"
  | .rowsel => "ROWSEL"
  | .oeon => "OEON"
  | .adv => "ADV"
  | .sleep => "SLEEP"

/-- The mask and the match of a mnemonic's row in spec/opcode_table.json (R74), as numbers. -/
def tableRow : Instr → Nat × Nat
  | .init => (0xFFFFF, 0x10000)
  | .select _ => (0xFFF00, 0x20000)
  | .setrate _ => (0xF0000, 0x30000)
  | .showicon _ _ => (0xFFFF8, 0x40000)
  | .update => (0xFFFFF, 0x50000)
  | .setbuf _ => (0xF0000, 0x60000)
  | .copyb => (0x3, 0x1)
  | .ovlb => (0x3, 0x2)
  | .shift3 => (0xF, 0x0)
  | .shift2 => (0xF, 0x1)
  | .shift1 => (0xF, 0x2)
  | .shift0 => (0xF, 0x3)
  | .oeoff => (0xF, 0x4)
  | .lathi => (0xF, 0x5)
  | .latwait => (0xF, 0x6)
  | .latlo => (0xF, 0x7)
  | .rowsel => (0xF, 0x8)
  | .oeon => (0xF, 0x9)
  | .adv => (0xF, 0xA)
  | .sleep => (0xF, 0xB)

/-- A selector as the number the opcode table writes it as. -/
def codeNat : Code → Nat
  | .cmd w => w.toNat
  | .aseq ap => ap.toNat
  | .sseq ph => ph.toNat

/-- The selector that `nbits` table bits `w` stand for: 2 bits are AP, up to 8 bits are PH, more
are a command word. In whole bytes AP and PH rows are both 8 bits wide; such a word is read as
PH (DESIGN CHOICE, safe, log 21: only this numbering of the table is concerned, no step). -/
def tableCode (nbits w : Nat) : Option Code :=
  if nbits ≤ 2 then if w < 4 then some (.aseq (BitVec.ofNat 2 w)) else none
  else if nbits ≤ 8 then if w < 16 then some (.sseq (BitVec.ofNat 4 w)) else none
  else if w < 1048576 then some (.cmd (BitVec.ofNat 20 w)) else none

/-- The operation the decoder reads from `nbits` table bits `w`. -/
def decodeTableWord (nbits w : Nat) : Option Instr :=
  match tableCode nbits w with
  | none => none
  | some c =>
    match decode c with
    | .ok i => some i
    | .error _ => none

end Sys2Proof
end

