-- ==== Sys2Proof/Config.lean ====
section
/-!
DEFINITION. The configuration of one block (spec/00_scope.md R4) and what the environment may
choose at each step (spec/00_scope.md R8; spec/70_reset_and_hazards.md R206).
Every row of R4's table is a field of `Config`, its value the field's default where R4 gives one;
State carries one `Config` that no step writes, so a claim about every state is a claim about
every configuration (log 1).
-/

namespace Sys2Proof

/-- One catalog record (spec/20_memory.md R42; spec/30_encoding.md R71). -/
structure CatEntry where
  /-- A frame index into SHEET (spec/90_conflicts.md C2). -/
  offset : BitVec 8
  /-- Frame count; 0 can be stored and is a configuration defect. -/
  length : BitVec 8
  /-- Refresh interval in milliseconds; 0 is a configuration defect. -/
  rate : BitVec 16
deriving DecidableEq, Repr

/-- One overlay icon: a byte offset in the frame buffer and an 8-bit mask
(spec/00_scope.md R4; spec/90_conflicts.md C11). -/
structure Icon where
  byte : Nat
  mask : Byte
deriving DecidableEq, Repr

/-- ROWSEL_MAP: the (A, B) code of each scanline (spec/42_scan_engine.md R131). -/
structure RowselMap where
  code0 : Bool × Bool
  code1 : Bool × Bool
  code2 : Bool × Bool
  code3 : Bool × Bool
deriving DecidableEq, Repr

/-- The code of scanline `S`. -/
def RowselMap.code (m : RowselMap) (S : BitVec 2) : Bool × Bool :=
  match S.toNat with
  | 0 => m.code0
  | 1 => m.code1
  | 2 => m.code2
  | _ => m.code3

/-- The default map, `(A, B) = (S[0], S[1])` (spec/42_scan_engine.md R131, from general
knowledge G1; PRESUMED, log 14). -/
def RowselMap.binary : RowselMap where
  code0 := (false, false)
  code1 := (true, false)
  code2 := (false, true)
  code3 := (true, true)

/-- TX_BIT_ORDER: which bit of a byte goes first on the serial wire (spec/20_memory.md R45). The
spec leaves the parameter OPEN and states no range (spec/00_scope.md R4; N22 of
spec/91_not_in_source.md); that the order is one of these two, and not another permutation of the
eight bits, is the model's DESIGN CHOICE, unsafe for a claim about the wire (log 29). -/
inductive BitOrder where
  | msbFirst
  | lsbFirst
deriving DecidableEq, Repr

/-- The configuration record of one block (spec/00_scope.md R4). The operations read the fields,
never the values; which values are legal, `Config.wf` says (WellFormed.lean; log 23, 28). -/
structure Config where
  /-- FRAME_SIZE: bytes in one frame and in one frame buffer. -/
  frameSize : Nat := 64
  /-- NUM_OF_FRAMES: frames in the sprite sheet. -/
  numOfFrames : Nat := 167
  /-- ROWS: panel geometry, used by no rule (spec/90_conflicts.md C3). -/
  rows : Nat := 16
  /-- COLS: panel geometry, used by no rule (spec/90_conflicts.md C3). -/
  cols : Nat := 32
  /-- NUM_SCANLINES: scanline states, row-groups. -/
  numScanlines : Nat := 4
  /-- ROWS_PER_GROUP: rows lit together in one scan phase; used by no rule. -/
  rowsPerGroup : Nat := 4
  /-- BYTES_PER_SCANLINE: bytes sent in one scan cycle with SCAN_SPAN = 1, one per SHIFT
  micro-step. -/
  bytesPerScanline : Nat := 4
  /-- GROUP_STRIDE: distance between the byte offsets of one scan cycle. -/
  groupStride : Nat := 16
  /-- SCANLINE_STRIDE: the byte offset of scanline S is SCANLINE_STRIDE * S. -/
  scanlineStride : Nat := 4
  /-- SCAN_PERIOD_MS, of the width of the port sleep_ms_n (spec/30_encoding.md R73; log 28). -/
  scanPeriodMs : BitVec 16 := 5
  /-- LATCH_HOLD_US, of the width of the port delay_us_n (spec/30_encoding.md R73; log 28). -/
  latchHoldUs : BitVec 8 := 1
  /-- TICK_MS: the period at which the caller issues UPDATE, its own duty
  (spec/70_reset_and_hazards.md R197); used by no rule. -/
  tickMs : Nat := 1
  /-- LENGTH_MIN: the least legal frame count of a catalog entry. -/
  lengthMin : Nat := 1
  /-- LENGTH_MAX: the greatest legal frame count of a catalog entry. -/
  lengthMax : Nat := 255
  /-- CAT; NUM_ANIMS is its length. -/
  cat : List CatEntry
  /-- SHEET as (address, byte) pairs below SHEET_SIZE; an address not listed reads 0. -/
  sheet : List Host.Cell
  /-- DEFAULT_ANIM, decided 0. -/
  defaultAnim : BitVec 8 := 0
  /-- ICON_BYTE[0], ICON_MASK[0]. -/
  poo : Icon
  /-- ICON_BYTE[1], ICON_MASK[1]. -/
  sick : Icon
  /-- ICON_BYTE[2], ICON_MASK[2]. -/
  sleep : Icon
  /-- ADDR_W: width of a DMEM address. -/
  addrW : Nat := 16
  /-- DMEM_SIZE. -/
  dmemSize : Nat
  /-- ANIM_FB_BASE. -/
  animFbBase : Nat
  /-- ROWSEL_MAP. -/
  rowselMap : RowselMap := RowselMap.binary
  /-- SCAN_SPAN: consecutive bytes sent per row start. -/
  scanSpan : Nat := 1
  /-- OE_ON_MS: brightness (spec/42_scan_engine.md R135). -/
  oeOnMs : BitVec 16 := scanPeriodMs
  /-- COPY_ORDER: entry `i` is the byte copied by the COPYB step with CI = i. -/
  copyOrder : List (BitVec 6)
  /-- TX_BIT_ORDER, one of two orders (log 29): no step reads it; the observer of the wire does
  (Machine/Panel.lean). -/
  txBitOrder : BitOrder
deriving DecidableEq, Repr

/-- SHEET_SIZE = NUM_OF_FRAMES * FRAME_SIZE (spec/20_memory.md R41). -/
abbrev Config.sheetSize (c : Config) : Nat := c.numOfFrames * c.frameSize

/-- The size of the DMEM address space, 2^ADDR_W (spec/00_scope.md R5). -/
abbrev Config.addrSpace (c : Config) : Nat := 2 ^ c.addrW

/-- NUM_ANIMS. -/
abbrev Config.numAnims (c : Config) : Nat := c.cat.length

/-- COPY_ORDER ascending, its default (spec/00_scope.md R4). -/
def Config.ascending : List (BitVec 6) := (List.range 64).map (BitVec.ofNat 6)

/-- The configuration of `State.reset`: configuration TC1 of spec/95_test_vectors.md section 1
with a blank sheet, TX_BIT_ORDER most significant bit first, every other parameter at the value
of R4. DESIGN CHOICE, unsafe for a claim about `State.reset` alone (log 2). -/
def Config.initial : Config where
  cat := [⟨0, 2, 3⟩, ⟨2, 3, 2⟩, ⟨166, 1, 500⟩]
  sheet := []
  poo := ⟨4, 0x01⟩
  sick := ⟨8, 0x80⟩
  sleep := ⟨60, 0x0F⟩
  dmemSize := 256
  animFbBase := 0x40
  copyOrder := Config.ascending
  txBitOrder := .msbFirst

/-- What happens next: which agent takes a step (spec/00_scope.md R8), or what the environment
does at the block's inputs (spec/30_encoding.md R73; spec/70_reset_and_hazards.md R206). -/
inductive Choice where
  /-- SCAN takes its micro-step, if it has one. -/
  | scan
  /-- ANIM takes its micro-step, if it has one. -/
  | anim
  /-- PORT accepts the waiting word, if AP = IDLE. -/
  | port
  /-- HOSTMEM: `HWRITE(a, v)` (spec/20_memory.md R47). -/
  | hwrite (a : Addr) (v : Byte)
  /-- HOSTMEM: `HREAD(a)`. -/
  | hread (a : Addr)
  /-- The host offers a word on cmd_word (spec/30_encoding.md R72). -/
  | offer (w : CmdWord)
  /-- The platform drives the input plat_ok (spec/60_exceptions.md R174). -/
  | plat (ok : Bool)
  /-- The serial primitive drives tx_status (spec/42_scan_engine.md R139). -/
  | txStatus (st : Bool)
  /-- The input rst is asserted (spec/70_reset_and_hazards.md R190). -/
  | rst
deriving DecidableEq, Repr, Inhabited

/-- FREE VALUE: the `n`-th choice the environment makes once the listed choices of a state are
used up. Nothing constrains it (spec/93_implementation_defined.md U6: any enabled agent may
step next). DESIGN CHOICE, safe (log 4). -/
opaque Config.freeChoice : Nat → Choice

end Sys2Proof
end

