-- ==== Sys2Proof/Machine/State.lean ====
section
/-!
DEFINITION. The state of the block (spec/10_state.md R10 to R26, spec/42_scan_engine.md R136),
its ports (spec/30_encoding.md R73), the model's own fields (log 1, 4), the reasons a step can
stop, and the state after reset (spec/10_state.md R31).
-/

namespace Sys2Proof.Machine

open Sys2Proof

/-- A response (spec/30_encoding.md R63); its code on rsp_code is `Response.code`
(Machine/Flags.lean). -/
inductive Response where
  | ok
  | rejected
  | configFault
  | resourceFault
deriving DecidableEq, Repr

/-- An event of the output trace OUT (spec/42_scan_engine.md R121). -/
inductive Event where
  /-- One call of the serial primitive with the byte `v`. -/
  | tx (v : Byte)
  /-- The pin OE is driven to `b`. -/
  | oe (b : Bool)
  /-- The pin LAT is driven to `b`. -/
  | lat (b : Bool)
  /-- The pins ROW_A, ROW_B are driven to `a`, `b`. -/
  | row (a b : Bool)
  /-- The busy-wait primitive was called for `n` microseconds, the 8 bits of delay_us_n (R73), and
  has returned. -/
  | delayUs (n : BitVec 8)
  /-- The sleep primitive was called for `n` milliseconds, the 16 bits of sleep_ms_n (R73), and has
  returned. -/
  | sleepMs (n : BitVec 16)
deriving DecidableEq, Repr

/-- The three fatal faults of the block (spec/60_exceptions.md R160). Raising one is a NEXT state
of the model, with the sticky STATUS bit set (R163, log 6). -/
inductive FatalFault where
  /-- The catalog is invalid (R161). -/
  | config
  /-- The platform failed to start (R162). -/
  | resource
  /-- A SHIFT micro-step found no registered buffer (R165). -/
  | noBuf
deriving DecidableEq, Repr

/-- The state of the block. Names in the comments are the spec's. -/
structure State where
  /-- Configuration (spec/00_scope.md R4): the model's own field, written by no step (log 1). -/
  cfg : Config
  /-- STARTED (R11), also STATUS bit 0 (R26). -/
  started : Bool
  /-- CUR (R12). -/
  cur : BitVec 8
  /-- CURSOR (R13). -/
  cursor : BitVec 8
  /-- ACC (R14). -/
  acc : BitVec 16
  /-- RATE_EFF (R15). -/
  rateEff : BitVec 16
  /-- OVR (R16). -/
  ovr : BitVec 16
  /-- FORCE (R17). -/
  force : Bool
  /-- EN (R18): bit 0 POO, bit 1 SICK, bit 2 SLEEP. -/
  en : BitVec 3
  /-- DISP (R19). -/
  disp : BitVec 8
  /-- AP (R20, R67): 0 IDLE, 1 COPY, 2 OVL. -/
  ap : BitVec 2
  /-- CI (R20). -/
  ci : BitVec 6
  /-- OI (R20). -/
  oi : BitVec 2
  /-- S (R21). -/
  scanline : BitVec 2
  /-- PH (R22, R66). -/
  ph : BitVec 4
  /-- SI (R136): read only when SCAN_SPAN is 2 or more (log 12). -/
  si : BitVec 2
  /-- SCAN_BASE (R23). -/
  scanBase : Addr
  /-- BUF_VALID (R24). -/
  bufValid : Bool
  /-- Pin OE (R25). -/
  oe : Bool
  /-- Pin LAT (R25). -/
  lat : Bool
  /-- Pin ROW_A (R25). -/
  rowA : Bool
  /-- Pin ROW_B (R25). -/
  rowB : Bool
  /-- STATUS bit 1, F_CONFIG (R26). -/
  fConfig : Bool
  /-- STATUS bit 2, F_RESOURCE (R26). -/
  fResource : Bool
  /-- STATUS bit 3, F_NOBUF (R26). -/
  fNoBuf : Bool
  /-- STATUS bit 4, E_REJ (R26). -/
  eRej : Bool
  /-- DMEM (spec/20_memory.md R40), in the canonical form of `Memory.wf`. -/
  dmem : List Host.Cell
  /-- OUT, oldest event first (R121): the record by which a run is observed (log 18). -/
  out : List Event
  /-- rsp_valid and rsp_code (R73): the response to the command last accepted (log 16). -/
  rsp : Option Response
  /-- h_rdata (R73): what the last HREAD returned (log 17). -/
  hRdata : Byte
  /-- cmd_valid and cmd_word (R72, R73): the word waiting at the port (log 15). -/
  cmd : Option CmdWord
  /-- The input plat_ok (R73, R174; log 15). -/
  platOk : Bool
  /-- The input tx_status (R73, R139; log 15). -/
  txStatus : Bool
  /-- The environment's coming choices, oldest first: the model's own field (log 4). -/
  choices : List Choice
  /-- How many free choices were taken: the model's own field (log 4). -/
  draws : Nat
deriving DecidableEq, Repr

/-- The model's own stops. None of them is reached from a state that meets `BlockInv`
(Safety.lean): each marks an address or an index that the spec says does not exist (log 7). -/
inductive Fault where
  /-- SHIFT, COPYB or OVLB addressed DMEM at or above DMEM_SIZE
  (spec/20_memory.md R56 says this cannot happen). Safe. -/
  | dmemBeyondSize
  /-- COPYB or OVLB addressed SHEET at or above SHEET_SIZE (spec/41_update_framecopy.md R110 says
  this cannot happen). Safe. -/
  | sheetBeyondSize
  /-- INIT or UPDATE read a catalog entry at or above NUM_ANIMS (spec/40_anim_commands.md R86 says
  this cannot happen). Safe. -/
  | catalogBeyondSize
  /-- UPDATE met an animation of length 0, whose `mod` is not defined
  (spec/41_update_framecopy.md R100). Safe. -/
  | zeroLength
  /-- OVLB met OI = 3, which names no icon (spec/10_state.md R20). Safe. -/
  | iconIndex
deriving DecidableEq, Repr

/-- No meaning: a step the spec does not give the block or its host. -/
inductive Refusal where
  /-- An instruction whose arm has no meaning yet; raised by `exec` alone. Safe. -/
  | notModelled (mnemonic : String)
  /-- The host's memory port at an address at or above DMEM_SIZE: "not admitted (the host has no
  such step)" (spec/20_memory.md R47). Safe (log 8). -/
  | hostAddressBeyondSize
  /-- The host offers a word while another one waits, which spec/70_reset_and_hazards.md R206
  assumes never. Safe (log 8). -/
  | hostChangesWaitingWord
deriving DecidableEq, Repr

/-- The state after reset of a block with configuration `c` and DMEM contents `m`
(spec/10_state.md R31; DMEM is unspecified after reset, spec/70_reset_and_hazards.md R192). The
fields the spec gives no reset value for are marked in log 15, 16 and 17. -/
def State.resetWith (c : Config) (m : List Host.Cell) : State where
  cfg := c
  started := false
  cur := 0
  cursor := 0
  acc := 0
  rateEff := 0
  ovr := 0
  force := false
  en := 0
  disp := 0
  ap := 0
  ci := 0
  oi := 0
  scanline := 0
  ph := 0
  si := 0
  scanBase := 0
  bufValid := false
  oe := false
  lat := false
  rowA := false
  rowB := false
  fConfig := false
  fResource := false
  fNoBuf := false
  eRej := false
  dmem := m
  out := []
  rsp := none
  hRdata := 0
  cmd := none
  platOk := true
  txStatus := false
  choices := []
  draws := 0

/-- The state after reset with the configuration of log 2 and nothing listed in DMEM (log 3). -/
def State.reset : State := State.resetWith Config.initial []

end Sys2Proof.Machine
end

