-- ==== Sys2Proof/Machine/Ops.lean ====
section
/-!
DEFINITION. The named operations of spec/00_scope.md R7 over memory and registers: reading and
writing DMEM and SHEET, emitting an event, responding, rejecting, raising a fatal fault, and
reset, the only way back from one.
-/

namespace Sys2Proof.Machine

open Sys2Proof

/-! ## Memory: (address, byte) pairs, addresses strictly rising, no pair holding the byte an
unlisted address reads as -/

/-- What an unlisted cell reads as. DESIGN CHOICE, unsafe for a claim about `State.reset` alone:
DMEM after reset is unspecified (spec/70_reset_and_hazards.md R192; log 3). -/
def Memory.blank : Byte := 0

/-- The byte of address `a`. -/
def Memory.read : List Host.Cell → Nat → Byte
  | [], _ => Memory.blank
  | (b, v) :: m, a => if a = b then v else Memory.read m a

/-- A pair in front of a memory of higher addresses, left out when it holds the blank byte. -/
def Memory.cons (a : Nat) (v : Byte) (m : List Host.Cell) : List Host.Cell :=
  if v = Memory.blank then m else (a, v) :: m

/-- Write the byte `v` at address `a`, keeping the canonical form. -/
def Memory.write : List Host.Cell → Nat → Byte → List Host.Cell
  | [], a, v => Memory.cons a v []
  | (b, w) :: m, a, v =>
    if a < b then Memory.cons a v ((b, w) :: m)
    else if a = b then Memory.cons a v m
    else (b, w) :: Memory.write m a v

/-- Every address of `m` is at least `lo`, addresses rise strictly, none reaches `hi`, and no pair
holds the blank byte. -/
def Memory.between : List Host.Cell → Nat → Nat → Bool
  | [], _, _ => true
  | (b, w) :: m, lo, hi =>
    decide (lo ≤ b) && decide (b < hi) && decide (w ≠ Memory.blank) && Memory.between m (b + 1) hi

/-- The canonical form of a memory of `size` cells. -/
def Memory.wf (size : Nat) (m : List Host.Cell) : Bool := Memory.between m 0 size

/-- `DMEM[a]`, where there is such a cell (spec/20_memory.md R40). -/
def dmemRead (s : State) (a : Nat) : Option Byte :=
  if a < s.cfg.dmemSize then some (Memory.read s.dmem a) else none

/-- `DMEM[a] <- v`, where there is such a cell (spec/20_memory.md R48, R49). -/
def dmemWrite (s : State) (a : Nat) (v : Byte) : Option State :=
  if a < s.cfg.dmemSize then some { s with dmem := Memory.write s.dmem a v } else none

/-- `SHEET[a]`, where there is such a cell (spec/20_memory.md R41). -/
def sheetRead (c : Config) (a : Nat) : Option Byte :=
  if a < c.sheetSize then some (Memory.read c.sheet a) else none

/-! ## Events and responses -/

/-- `emit E`: append an event to OUT (spec/42_scan_engine.md R121). -/
def emit (e : Event) (s : State) : State := { s with out := s.out ++ [e] }

/-- `respond c` (spec/00_scope.md R7). -/
def respond (c : Response) (s : State) : State := { s with rsp := some c }

/-- `reject`: set E_REJ and respond REJECTED, nothing else (spec/60_exceptions.md R164). -/
def reject (s : State) : State := { s with eRej := true, rsp := some .rejected }

/-! ## Fatal faults and the way back -/

/-- `raise Fault(F)`: set the sticky STATUS bit and nothing else: no state is saved, no mode
changes, control goes nowhere (spec/60_exceptions.md R163). -/
def raiseFault : FatalFault → State → State
  | .config, s => { s with fConfig := true }
  | .resource, s => { s with fResource := true }
  | .noBuf, s => { s with fNoBuf := true }

/-- rst: every register takes its reset value, DMEM keeps its contents, OUT starts empty, and a
word waiting at the port is the host's to offer again (spec/70_reset_and_hazards.md R190, R192;
spec/95_test_vectors.md V-RST-1, V-RST-2). The configuration, the platform's inputs and the
environment's coming choices are not the block's and stay (log 25). -/
def rst (s : State) : State :=
  { State.resetWith s.cfg s.dmem with
    platOk := s.platOk, txStatus := s.txStatus, choices := s.choices, draws := s.draws }

end Sys2Proof.Machine
end

