-- ==== Sys2Proof/Machine/Operands.lean ====
section
/-!
DEFINITION. Operand forms and effective addresses: the scanner's offsets
(spec/42_scan_engine.md R122, R136), the frame-copy engine's addresses
(spec/41_update_framecopy.md R106), and the lookups of an icon and of a catalog entry.
-/

namespace Sys2Proof.Machine

open Sys2Proof

/-- `off(S, k) = 4*S + 16*k`, the strides by their names (spec/42_scan_engine.md R122). -/
def scanOffset (c : Config) (S : BitVec 2) (k : Nat) : Nat :=
  c.scanlineStride * S.toNat + c.groupStride * k

/-- What SI adds to a fetch address: nothing when SCAN_SPAN = 1, for which R123 to R126 are
written, SI for SCAN_SPAN = 2..4 (spec/42_scan_engine.md R136). -/
def spanIndex (s : State) : Nat := if s.cfg.scanSpan = 1 then 0 else s.si.toNat

/-- The DMEM address a SHIFT micro-step of group `k` fetches, an exact sum
(spec/42_scan_engine.md R123, R136). SCAN_BASE is read in the step itself
(spec/43_buffer_handoff.md R151). -/
def shiftAddr (s : State) (k : Nat) : Nat :=
  s.scanBase.toNat + scanOffset s.cfg s.scanline k + spanIndex s

/-- `COPY_ORDER(CI)` (spec/41_update_framecopy.md R103). A configuration whose order has fewer
than FRAME_SIZE entries is not well-formed; there the byte is CI itself (log 13). -/
def copyIndex (s : State) : BitVec 6 := s.cfg.copyOrder.getD s.ci.toNat s.ci

/-- `DISP * 64 + j`, the 64 being FRAME_SIZE (spec/41_update_framecopy.md R102, R106). -/
def sheetAddr (s : State) (j : Nat) : Nat := s.disp.toNat * s.cfg.frameSize + j

/-- `ANIM_FB_BASE + j` (spec/41_update_framecopy.md R106). -/
def fbAddr (s : State) (j : Nat) : Nat := s.cfg.animFbBase + j

/-- ICON_BYTE and ICON_MASK of an icon code, in the order POO, SICK, SLEEP; code 3 names no icon
(spec/30_encoding.md R62). -/
def iconOf (c : Config) (x : BitVec 2) : Option Icon :=
  match x.toNat with
  | 0 => some c.poo
  | 1 => some c.sick
  | 2 => some c.sleep
  | _ => none

/-- `CAT[i]`, where there is such an entry (spec/20_memory.md R42). -/
def catEntry (c : Config) (i : BitVec 8) : Option CatEntry := c.cat[i.toNat]?

end Sys2Proof.Machine
end

