-- ==== Sys2Proof/Machine/Flags.lean ====
section
/-!
DEFINITION. Conditions and flags: CatalogValid (spec/40_anim_commands.md R81), the refresh
timer's expiry (spec/41_update_framecopy.md R101, R112), the icon flags EN
(spec/10_state.md R18), the STATUS word (spec/10_state.md R26) and the response port
(spec/30_encoding.md R63, R73).
-/

namespace Sys2Proof.Machine

open Sys2Proof

/-- One entry of a valid catalog: a legal frame count (LENGTH_MIN, LENGTH_MAX of
spec/00_scope.md R4), a rate, and frames that lie in the sheet; the sum is exact
(spec/40_anim_commands.md R81). -/
def entryValid (c : Config) (e : CatEntry) : Bool :=
  decide (c.lengthMin ≤ e.length.toNat) && decide (e.length.toNat ≤ c.lengthMax) &&
    decide (1 ≤ e.rate.toNat) && decide (e.offset.toNat + e.length.toNat ≤ c.numOfFrames)

/-- CatalogValid (spec/40_anim_commands.md R81). -/
def catalogValid (c : Config) : Bool := c.cat.all (entryValid c)

/-- `ACC + 1`, the value UPDATE writes (spec/41_update_framecopy.md R100, R101; it does not wrap
while ACC < RATE_EFF, R110; log 11). -/
def ticked (s : State) : BitVec 16 := s.acc + 1

/-- `elapse`: FORCE = 1, or the ACC just written reaches RATE_EFF
(spec/41_update_framecopy.md R100, R112). -/
def elapses (s : State) : Bool := s.force || decide (s.rateEff ≤ ticked s)

/-- `(CURSOR + 1) mod len` (spec/41_update_framecopy.md R102, R110), for `len ≥ 1`. -/
def nextCursor (cursor len : BitVec 8) : BitVec 8 :=
  BitVec.ofNat 8 ((cursor.toNat + 1) % len.toNat)

/-- The interval loaded at an elapse: OVR if it is set, else the entry's rate
(spec/41_update_framecopy.md R102). -/
def effectiveRate (s : State) (e : CatEntry) : BitVec 16 := if s.ovr ≠ 0 then s.ovr else e.rate

/-- `EN[x]` (spec/10_state.md R18). -/
def iconShown (s : State) (x : BitVec 2) : Bool := s.en.getLsbD x.toNat

/-- `EN[x] <- b`; the other two flags are untouched (spec/40_anim_commands.md R85). -/
def setIcon (en : BitVec 3) (x : BitVec 2) (b : Bool) : BitVec 3 :=
  let bit : BitVec 3 := 1#3 <<< x.toNat
  if b then en ||| bit else en &&& ~~~bit

/-- The byte an OVLB step writes for an icon of mask `m`, over the byte `old` of the frame buffer
and the byte `base` of the displayed frame (spec/41_update_framecopy.md R104). -/
def overlayByte (shown : Bool) (m old base : Byte) : Byte :=
  if shown then old ||| m else (old &&& ~~~m) ||| (base &&& m)

/-- STATUS: E_REJ, F_NOBUF, F_RESOURCE, F_CONFIG, STARTED in bits 4..0 (spec/10_state.md R26). -/
def State.status (s : State) : BitVec 5 :=
  BitVec.ofBool s.eRej ++ BitVec.ofBool s.fNoBuf ++ BitVec.ofBool s.fResource ++
    BitVec.ofBool s.fConfig ++ BitVec.ofBool s.started

/-- The code of a response on rsp_code (spec/30_encoding.md R63; spec/60_exceptions.md R160). -/
def Response.code : Response → BitVec 2
  | .ok => 0
  | .rejected => 1
  | .configFault => 2
  | .resourceFault => 3

/-- rsp_valid (spec/30_encoding.md R72, R73). -/
def State.rspValid (s : State) : Bool := s.rsp.isSome

/-- rsp_code, where rsp_valid = 1 (spec/30_encoding.md R63, R73). -/
def State.rspCode (s : State) : Option (BitVec 2) := s.rsp.map Response.code

/-- cmd_ready = 1 exactly when AP = IDLE (spec/30_encoding.md R72). -/
def State.cmdReady (s : State) : Bool := decide (s.ap = 0)

/-- SCAN is enabled: STARTED = 1 and F_NOBUF = 0 (spec/42_scan_engine.md R120). -/
def State.scanEnabled (s : State) : Bool := s.started && !s.fNoBuf

/-- ANIM is released by STARTED (spec/10_state.md R11; spec/60_exceptions.md R163; log 10); which
micro-step it takes, if any, AP selects (spec/30_encoding.md R67). -/
def State.animEnabled (s : State) : Bool := s.started

end Sys2Proof.Machine
end

