-- ==== Sys2Proof/Machine/AnimCommands.lean ====
section
/-!
DEFINITION. The frame-copy engine's start-up and control commands: INIT, SELECT, SETRATE,
SHOWICON (spec/40_anim_commands.md R80 to R85). The port accepts a word only while AP = IDLE
(Machine/Agents.lean, log 26); a meaning is what the acceptance does.
-/

namespace Sys2Proof.Machine

open Sys2Proof

/-- A command admitted only while STARTED = 1, rejected otherwise
(spec/40_anim_commands.md R80; spec/60_exceptions.md R164 (c)). -/
def whenStarted (s : State) (k : Host.Outcome State Fault Refusal) :
    Host.Outcome State Fault Refusal :=
  if s.started then k else .next (reject s)

/-- INIT is admitted while STARTED, F_CONFIG and F_RESOURCE are 0
(spec/40_anim_commands.md R80, R82). -/
def initAdmitted (s : State) : Bool := !s.started && !s.fConfig && !s.fResource

/-- What a successful INIT writes, `e` being `CAT[DEFAULT_ANIM]` (spec/40_anim_commands.md R82). -/
def startBlock (e : CatEntry) (s : State) : State :=
  { s with cur := s.cfg.defaultAnim, cursor := 0, acc := 0, rateEff := e.rate, force := true,
           started := true }

/-- INIT (spec/40_anim_commands.md R82): the catalog is checked before plat_ok
(spec/60_exceptions.md R168). -/
def execInit (s : State) : Host.Outcome State Fault Refusal :=
  if initAdmitted s then
    if catalogValid s.cfg then
      if s.platOk then
        match catEntry s.cfg s.cfg.defaultAnim with
        | none => .fault .catalogBeyondSize
        | some e => .next (respond .ok (startBlock e s))
      else .next (respond .resourceFault (raiseFault .resource s))
    else .next (respond .configFault (raiseFault .config s))
  else .next (reject s)

/-- What a SELECT of a different id writes (spec/40_anim_commands.md R83). -/
def switchTo (id : BitVec 8) (s : State) : State :=
  { s with cur := id, cursor := 0, force := true }

/-- SELECT id (spec/40_anim_commands.md R83). -/
def execSelect (id : BitVec 8) (s : State) : Host.Outcome State Fault Refusal :=
  whenStarted s <|
    if id.toNat < s.cfg.numAnims then
      if id = s.cur then .next (respond .ok s) else .next (respond .ok (switchTo id s))
    else .next (reject s)

/-- SETRATE ms (spec/40_anim_commands.md R84). -/
def execSetrate (ms : BitVec 16) (s : State) : Host.Outcome State Fault Refusal :=
  whenStarted s <|
    if ms = 0 then .next (reject s) else .next (respond .ok { s with ovr := ms })

/-- SHOWICON icon, enabled (spec/40_anim_commands.md R85). -/
def execShowicon (icon : BitVec 2) (enabled : Bool) (s : State) :
    Host.Outcome State Fault Refusal :=
  whenStarted s <|
    if icon = 3 then .next (reject s)
    else .next (respond .ok { s with en := setIcon s.en icon enabled })

end Sys2Proof.Machine
end

