-- ==== Sys2Proof/Machine/Buffer.lean ====
section
/-!
DEFINITION. SETBUF, the buffer pointer (spec/43_buffer_handoff.md R150 to R154).
-/

namespace Sys2Proof.Machine

open Sys2Proof

/-- The window of FRAME_SIZE = 64 bytes at `ptr` lies in DMEM, the sum exact (spec/43_buffer_handoff.md R150). -/
def windowInDmem (c : Config) (ptr : Addr) : Bool :=
  decide (ptr.toNat + c.frameSize ≤ c.dmemSize)

/-- SETBUF ptr: admitted in every state; neither S nor PH is touched and no byte is written
(spec/43_buffer_handoff.md R150, R154). -/
def execSetbuf (ptr : Addr) (s : State) : Host.Outcome State Fault Refusal :=
  if windowInDmem s.cfg ptr then .next (respond .ok { s with scanBase := ptr, bufValid := true })
  else .next (reject s)

end Sys2Proof.Machine
end

