-- ==== Sys2Proof/Machine/FrameCopy.lean ====
section
/-!
DEFINITION. UPDATE, the refresh-rate timer, and the micro-steps COPYB and OVLB
(spec/41_update_framecopy.md R100 to R106).
-/

namespace Sys2Proof.Machine

open Sys2Proof

/-- The bookkeeping of an elapse, all from the values before the step
(spec/41_update_framecopy.md R102). -/
def beginCopy (e : CatEntry) (s : State) : State :=
  { s with disp := BitVec.ofNat 8 (e.offset.toNat + s.cursor.toNat)
           cursor := nextCursor s.cursor e.length
           acc := 0, force := false, rateEff := effectiveRate s e, ap := 1, ci := 0, rsp := none }

/-- An UPDATE that does not elapse: one more tick, then the overlay pass
(spec/41_update_framecopy.md R100). -/
def beginOverlay (s : State) : State :=
  { s with acc := ticked s, ap := 2, oi := 0, rsp := none }

/-- UPDATE (spec/41_update_framecopy.md R100). The response comes with the last OVLB step (R105),
so the accepting step withdraws the response of the command before. -/
def execUpdate (s : State) : Host.Outcome State Fault Refusal :=
  whenStarted s <|
    match catEntry s.cfg s.cur with
    | none => .fault .catalogBeyondSize
    | some e =>
      if elapses s then
        if e.length = 0 then .fault .zeroLength else .next (beginCopy e s)
      else .next (beginOverlay s)

/-- Where COPYB leaves the sequencer: the overlay pass after the byte of CI = FRAME_SIZE - 1, which
is 63, the next byte otherwise (spec/41_update_framecopy.md R103). -/
def afterCopy (s : State) : State :=
  if s.ci.toNat + 1 = s.cfg.frameSize then { s with ap := 2, oi := 0 } else { s with ci := s.ci + 1 }

/-- COPYB (spec/41_update_framecopy.md R103). -/
def execCopyb (s : State) : Host.Outcome State Fault Refusal :=
  let j := (copyIndex s).toNat
  match sheetRead s.cfg (sheetAddr s j) with
  | none => .fault .sheetBeyondSize
  | some v =>
    match dmemWrite s (fbAddr s j) v with
    | none => .fault .dmemBeyondSize
    | some t => .next (afterCopy t)

/-- Where OVLB leaves the sequencer: IDLE with the UPDATE's response after icon 2, the next icon
otherwise (spec/41_update_framecopy.md R104, R105). -/
def afterOverlay (s : State) : State :=
  if s.oi = 2 then respond .ok { s with ap := 0 } else { s with oi := s.oi + 1 }

/-- OVLB: the read and the write of the icon's byte are one atomic step
(spec/41_update_framecopy.md R104). SHEET is read only for a hidden icon. -/
def execOvlb (s : State) : Host.Outcome State Fault Refusal :=
  match iconOf s.cfg s.oi with
  | none => .fault .iconIndex
  | some x =>
    match dmemRead s (fbAddr s x.byte) with
    | none => .fault .dmemBeyondSize
    | some old =>
      match (if iconShown s s.oi then some 0 else sheetRead s.cfg (sheetAddr s x.byte)) with
      | none => .fault .sheetBeyondSize
      | some base =>
        match dmemWrite s (fbAddr s x.byte) (overlayByte (iconShown s s.oi) x.mask old base) with
        | none => .fault .dmemBeyondSize
        | some t => .next (afterOverlay t)

end Sys2Proof.Machine
end

