-- ==== Sys2Proof/Machine/ScanEngine.lean ====
section
/-!
DEFINITION. The scan-out engine: the shift-register loader, blanking, latch, row-select, advance
and wait (spec/42_scan_engine.md R122 to R136).
-/

namespace Sys2Proof.Machine

open Sys2Proof

/-- Fetch the byte of group `k` and hand it to the serial primitive, or raise F_NOBUF; `after` is
where the sequencer goes (spec/42_scan_engine.md R123). The transmit status, the input
tx_status, is drawn and discarded (R139). -/
def shiftOut (k : Nat) (after : State → State) (s : State) : Host.Outcome State Fault Refusal :=
  if s.bufValid then
    match dmemRead s (shiftAddr s k) with
    | none => .fault .dmemBeyondSize
    | some v => .next (after (emit (.tx v) s))
  else .next (raiseFault .noBuf s)

/-- `PH <- n` (spec/00_scope.md R7). -/
def gotoPhase (n : BitVec 4) (s : State) : State := { s with ph := n }

/-- Where SHIFT0 goes: on to OEOFF, or back to SHIFT3 for the next of the SCAN_SPAN bytes of each
row start (spec/42_scan_engine.md R126, R136). -/
def afterLastGroup (s : State) : State :=
  if s.cfg.scanSpan = 1 then gotoPhase 4 s
  else if s.si.toNat + 1 = s.cfg.scanSpan then gotoPhase 4 { s with si := 0 }
  else gotoPhase 0 { s with si := s.si + 1 }

/-- SHIFT3 (spec/42_scan_engine.md R123). -/
def execShift3 (s : State) : Host.Outcome State Fault Refusal := shiftOut 3 (gotoPhase 1) s

/-- SHIFT2 (spec/42_scan_engine.md R124). -/
def execShift2 (s : State) : Host.Outcome State Fault Refusal := shiftOut 2 (gotoPhase 2) s

/-- SHIFT1 (spec/42_scan_engine.md R125). -/
def execShift1 (s : State) : Host.Outcome State Fault Refusal := shiftOut 1 (gotoPhase 3) s

/-- SHIFT0 (spec/42_scan_engine.md R126, R136). -/
def execShift0 (s : State) : Host.Outcome State Fault Refusal := shiftOut 0 afterLastGroup s

/-- Drive the pin OE and record it; the event is emitted also when the pin has that value
(spec/42_scan_engine.md R121). -/
def driveOe (b : Bool) (s : State) : State := emit (.oe b) { s with oe := b }

/-- Drive the pin LAT and record it (spec/42_scan_engine.md R121). -/
def driveLat (b : Bool) (s : State) : State := emit (.lat b) { s with lat := b }

/-- Drive the pins ROW_A, ROW_B and record it (spec/42_scan_engine.md R121). -/
def driveRow (c : Bool × Bool) (s : State) : State :=
  emit (.row c.1 c.2) { s with rowA := c.1, rowB := c.2 }

/-- OEOFF (spec/42_scan_engine.md R127). -/
def execOeoff (s : State) : Host.Outcome State Fault Refusal :=
  .next (gotoPhase 5 (driveOe false s))

/-- LATHI (spec/42_scan_engine.md R128). -/
def execLathi (s : State) : Host.Outcome State Fault Refusal :=
  .next (gotoPhase 6 (driveLat true s))

/-- LATWAIT, taken when the busy-wait primitive has returned (spec/42_scan_engine.md R129). -/
def execLatwait (s : State) : Host.Outcome State Fault Refusal :=
  .next (gotoPhase 7 (emit (.delayUs s.cfg.latchHoldUs) s))

/-- LATLO (spec/42_scan_engine.md R130). -/
def execLatlo (s : State) : Host.Outcome State Fault Refusal :=
  .next (gotoPhase 8 (driveLat false s))

/-- ROWSEL (spec/42_scan_engine.md R131). -/
def execRowsel (s : State) : Host.Outcome State Fault Refusal :=
  .next (gotoPhase 9 (driveRow (s.cfg.rowselMap.code s.scanline) s))

/-- OEON (spec/42_scan_engine.md R132). -/
def execOeon (s : State) : Host.Outcome State Fault Refusal :=
  .next (gotoPhase 10 (driveOe true s))

/-- `(S + 1) mod 4`, the 4 being NUM_SCANLINES (spec/42_scan_engine.md R133). -/
def nextScanline (c : Config) (S : BitVec 2) : BitVec 2 :=
  BitVec.ofNat 2 ((S.toNat + 1) % c.numScanlines)

/-- ADV: no event (spec/42_scan_engine.md R133). -/
def execAdv (s : State) : Host.Outcome State Fault Refusal :=
  .next (gotoPhase 11 { s with scanline := nextScanline s.cfg s.scanline })

/-- The wait of one cycle: the whole period with the rows as they are, or, with
OE_ON_MS < SCAN_PERIOD_MS, the lit part, the blanking and the rest
(spec/42_scan_engine.md R134, R135). -/
def waitPeriod (s : State) : State :=
  if s.cfg.oeOnMs < s.cfg.scanPeriodMs then
    let lit := if 0 < s.cfg.oeOnMs then emit (.sleepMs s.cfg.oeOnMs) s else s
    emit (.sleepMs (s.cfg.scanPeriodMs - s.cfg.oeOnMs)) (driveOe false lit)
  else emit (.sleepMs s.cfg.scanPeriodMs) s

/-- SLEEP, taken when the sleep primitive has returned (spec/42_scan_engine.md R134, R135). -/
def execSleep (s : State) : Host.Outcome State Fault Refusal :=
  .next (gotoPhase 0 (waitPeriod s))

end Sys2Proof.Machine
end

