-- ==== Sys2Proof/Machine/Dispatch.lean ====
section
/-!
DEFINITION. exec: one arm per operation of Instr.
-/

namespace Sys2Proof.Machine

def exec (i : Instr) (s : State) : Host.Outcome State Fault Refusal :=
  match i with
  | .init => Sys2Proof.Machine.execInit s
  | .select id => Sys2Proof.Machine.execSelect id s
  | .setrate ms => Sys2Proof.Machine.execSetrate ms s
  | .showicon icon enabled => Sys2Proof.Machine.execShowicon icon enabled s
  | .update => Sys2Proof.Machine.execUpdate s
  | .setbuf ptr => Sys2Proof.Machine.execSetbuf ptr s
  | .copyb => Sys2Proof.Machine.execCopyb s
  | .ovlb => Sys2Proof.Machine.execOvlb s
  | .shift3 => Sys2Proof.Machine.execShift3 s
  | .shift2 => Sys2Proof.Machine.execShift2 s
  | .shift1 => Sys2Proof.Machine.execShift1 s
  | .shift0 => Sys2Proof.Machine.execShift0 s
  | .oeoff => Sys2Proof.Machine.execOeoff s
  | .lathi => Sys2Proof.Machine.execLathi s
  | .latwait => Sys2Proof.Machine.execLatwait s
  | .latlo => Sys2Proof.Machine.execLatlo s
  | .rowsel => Sys2Proof.Machine.execRowsel s
  | .oeon => Sys2Proof.Machine.execOeon s
  | .adv => Sys2Proof.Machine.execAdv s
  | .sleep => Sys2Proof.Machine.execSleep s

end Sys2Proof.Machine
end

