-- ==== Sys2Proof/Machine/Agents.lean ====
section
/-!
DEFINITION. The agents' steps (spec/00_scope.md R8): which operation each agent takes, the
command port's handshake (spec/30_encoding.md R72), the host's memory port (spec/20_memory.md
R47), the inputs of the environment, and the choice of the next step (log 4).
-/

namespace Sys2Proof.Machine

open Sys2Proof

/-- Run the operation a sequencer's register selects; where it selects none (AP = IDLE, or a value
no rule produces) the agent has no step and nothing happens
(spec/93_implementation_defined.md U17; log 5, 9). -/
def microStep (c : Code) (s : State) : Host.Outcome State Fault Refusal :=
  match decode c with
  | .ok i => exec i s
  | .error _ => .next s

/-- SCAN: the micro-step PH selects, while STARTED = 1 and F_NOBUF = 0
(spec/42_scan_engine.md R120; spec/30_encoding.md R66). -/
def scanStep (s : State) : Host.Outcome State Fault Refusal :=
  if s.scanEnabled then microStep (.sseq s.ph) s else .next s

/-- ANIM: the micro-step AP selects (spec/30_encoding.md R67; log 10). -/
def animStep (s : State) : Host.Outcome State Fault Refusal :=
  if s.animEnabled then microStep (.aseq s.ap) s else .next s

/-- The word at the port is accepted: it is carried out, or, where it is a reserved encoding,
rejected (spec/30_encoding.md R64). -/
def acceptWord (w : CmdWord) (s : State) : Host.Outcome State Fault Refusal :=
  match decode (.cmd w) with
  | .ok i => exec i s
  | .error _ => .next (reject s)

/-- PORT: a waiting word is accepted exactly while AP = IDLE; otherwise it waits
(spec/30_encoding.md R72). -/
def portStep (s : State) : Host.Outcome State Fault Refusal :=
  match s.cmd with
  | none => .next s
  | some w => if s.cmdReady then acceptWord w { s with cmd := none } else .next s

/-- HOSTMEM: `HWRITE(a, v)` (spec/20_memory.md R47). -/
def hostWrite (a : Addr) (v : Byte) (s : State) : Host.Outcome State Fault Refusal :=
  match dmemWrite s a.toNat v with
  | none => .refused .hostAddressBeyondSize
  | some t => .next t

/-- HOSTMEM: `HREAD(a)` (spec/20_memory.md R47): h_rdata is the byte, nothing else changes. -/
def hostRead (a : Addr) (s : State) : Host.Outcome State Fault Refusal :=
  match dmemRead s a.toNat with
  | none => .refused .hostAddressBeyondSize
  | some v => .next { s with hRdata := v }

/-- The host offers a word; it may not change one that waits (spec/30_encoding.md R72;
spec/70_reset_and_hazards.md R206; log 8, 15). -/
def offerWord (w : CmdWord) (s : State) : Host.Outcome State Fault Refusal :=
  match s.cmd with
  | none => .next { s with cmd := some w }
  | some _ => .refused .hostChangesWaitingWord

/-- What a choice does. -/
def act (c : Choice) (s : State) : Host.Outcome State Fault Refusal :=
  match c with
  | .scan => scanStep s
  | .anim => animStep s
  | .port => portStep s
  | .hwrite a v => hostWrite a v s
  | .hread a => hostRead a s
  | .offer w => offerWord w s
  | .plat ok => .next { s with platOk := ok }
  | .txStatus st => .next { s with txStatus := st }
  | .rst => .next (rst s)

/-- The next choice: the first listed one, or a free one (log 4). -/
def nextChoice (s : State) : Choice :=
  match s.choices with
  | c :: _ => c
  | [] => Config.freeChoice s.draws

/-- The state once the next choice is taken from the list, or drawn. -/
def consumeChoice (s : State) : State :=
  match s.choices with
  | _ :: cs => { s with choices := cs }
  | [] => { s with draws := s.draws + 1 }

/-- One step of the block and its environment. -/
def stepOnce (s : State) : Host.Outcome State Fault Refusal :=
  act (nextChoice s) (consumeChoice s)

/-- `s` with the operation that `c` selects placed where its agent fetches it, that agent enabled
and chosen next (log 22): a command word waits at the open port; PH or AP holds the selector and
its sequencer has a step. -/
def withCode (s : State) (c : Code) : State :=
  match c with
  | .cmd w => { s with cmd := some w, ap := 0, choices := .port :: s.choices }
  | .aseq ap => { s with ap := ap, started := true, choices := .anim :: s.choices }
  | .sseq ph =>
    { s with ph := ph, started := true, fNoBuf := false, choices := .scan :: s.choices }

end Sys2Proof.Machine
end

