-- ==== Sys2Proof/Machine/Step.lean ====
section
/-!
DEFINITION. One step of the machine, and the placing of an instruction where it fetches its next
one. Everything they do stands in Machine/Agents.lean and Decode.lean.
-/

namespace Sys2Proof.Machine

open Sys2Proof

/-- One step: the next choice of the environment is acted on (spec/00_scope.md R8; log 4). -/
def step (s : State) : Host.Outcome State Fault Refusal := stepOnce s

/-- `s` with the table's instruction of `nbits` bits `w` as the next one to run (log 21, 22); where
the bits stand for no selector at all, `s` itself. -/
def State.withFetchWord (s : State) (nbits w : Nat) : State :=
  match tableCode nbits w with
  | none => s
  | some c => withCode s c

end Sys2Proof.Machine
end

