-- ==== Sys2Proof/Machine/Panel.lean ====
section
/-!
DEFINITION. The panel behind the block: an observer of the output trace, not state of the block
(spec/42_scan_engine.md R138, informative, from general knowledge G3; spec/10_state.md R30 (b);
PRESUMED, log 20). No step reads it.
-/

namespace Sys2Proof.Machine

open Sys2Proof

/-- The chain CH and the output register PO, each listed from the input end to the deepest place,
and the pins as the panel sees them. -/
structure Panel where
  chain : List Byte
  latched : List Byte
  oe : Bool
  row : Bool × Bool
deriving DecidableEq, Repr

/-- One event reaches the panel; `delivered` says whether a transmit reached it (R138, R139). -/
def Panel.absorb (p : Panel) (e : Event) (delivered : Bool) : Panel :=
  match e with
  | .tx v => if delivered then { p with chain := v :: p.chain.dropLast } else p
  | .oe b => { p with oe := b }
  | .lat b => if b then { p with latched := p.chain } else p
  | .row a b => { p with row := (a, b) }
  | .delayUs _ => p
  | .sleepMs _ => p

/-- The panel after a trace, every transmit delivered. -/
def Panel.watch (p : Panel) (es : List Event) : Panel :=
  es.foldl (fun q e => q.absorb e true) p

/-- The bits of one byte in the order the serial wire carries them, which is outside the block
(spec/20_memory.md R45; spec/93_implementation_defined.md U23: TX_BIT_ORDER is a parameter for
whoever models the panel; log 29). -/
def wireBits (order : BitOrder) (v : Byte) : List Bool :=
  match order with
  | .msbFirst => (List.range 8).map v.getMsbD
  | .lsbFirst => (List.range 8).map v.getLsbD

/-- The bits a trace puts on the wire. -/
def wire (c : Config) (es : List Event) : List Bool :=
  es.flatMap fun
    | .tx v => wireBits c.txBitOrder v
    | .oe _ | .lat _ | .row _ _ | .delayUs _ | .sleepMs _ => []

/-- What is lit: nothing while OE = 0, else the pattern PO, deepest place first, on the row-group
of (ROW_A, ROW_B). -/
def Panel.lit (p : Panel) : Option ((Bool × Bool) × List Byte) :=
  if p.oe then some (p.row, p.latched.reverse) else none

end Sys2Proof.Machine
end

