-- ==== Sys2Proof/WellFormed.lean ====
section
/-!
DEFINITION. Well-formed configurations (spec/00_scope.md R5, with the values and ranges of R4). The
operations need no such check: every operand of `Instr` has the width of its field. The
catalog's own invariants are not part of it: INIT checks them (spec/40_anim_commands.md R81).
-/

namespace Sys2Proof

/-- The parameters for which R4 gives one value and R5 no range hold that value: "a parameter
marked *source* takes the value the source states" (R4; ADDR_W is decided; log 23). -/
def Config.sourceValues (c : Config) : Bool :=
  decide (c.frameSize = 64) && decide (c.numOfFrames = 167) && decide (c.numScanlines = 4) &&
    decide (c.groupStride = 16) && decide (c.scanlineStride = 4) && decide (c.lengthMin = 1) &&
    decide (c.lengthMax = 255) && decide (c.addrW = 16) && decide (c.bytesPerScanline = 4) &&
    decide (c.rowsPerGroup = 4) && decide (c.rows = 16) && decide (c.cols = 32) &&
    decide (c.tickMs = 1)

/-- ICON_BYTE < FRAME_SIZE and a non-zero mask (R5). -/
def Icon.wf (frameSize : Nat) (x : Icon) : Bool :=
  decide (x.byte < frameSize) && decide (x.mask ≠ 0)

/-- Two icons that share a byte have disjoint masks (R5). -/
def Icon.compatible (x y : Icon) : Bool :=
  decide (x.byte ≠ y.byte) || decide (x.mask &&& y.mask = 0)

/-- ROWSEL_MAP is injective (R5). -/
def RowselMap.injective (m : RowselMap) : Bool :=
  decide ([m.code0, m.code1, m.code2, m.code3].Nodup)

/-- COPY_ORDER is a permutation of 0..FRAME_SIZE-1 (spec/41_update_framecopy.md R103). -/
def Config.copyOrderOk (c : Config) : Bool :=
  decide (c.copyOrder.length = c.frameSize) && decide c.copyOrder.Nodup &&
    c.copyOrder.all (fun j => decide (j.toNat < c.frameSize))

/-- The three icons are each well-formed and pairwise compatible. -/
def Config.iconsOk (c : Config) : Bool :=
  c.poo.wf c.frameSize && c.sick.wf c.frameSize && c.sleep.wf c.frameSize &&
    c.poo.compatible c.sick && c.poo.compatible c.sleep && c.sick.compatible c.sleep

/-- NUM_ANIMS in 1..256 and DEFAULT_ANIM < NUM_ANIMS (R4, R5). -/
def Config.catSizeOk (c : Config) : Bool :=
  decide (c.numAnims ≤ 256) && decide (c.defaultAnim.toNat < c.numAnims)

/-- The frame-copy engine's window lies in DMEM, and DMEM in the address space (R5). -/
def Config.windowOk (c : Config) : Bool :=
  decide (c.animFbBase + c.frameSize ≤ c.dmemSize) && decide (c.dmemSize ≤ c.addrSpace)

/-- 1 ≤ SCAN_SPAN ≤ 4, 0 ≤ OE_ON_MS ≤ SCAN_PERIOD_MS and 1 ≤ SCAN_PERIOD_MS (R5).
1 ≤ LATCH_HOLD_US: R5 states no range, R4 calls the value 1 a lower bound and
spec/42_scan_engine.md R129 holds the latch for at least 1 microsecond; that a hold of 0 is not
well-formed, and every hold of 1 to 255 is, is the model's DESIGN CHOICE, unsafe (log 28). -/
def Config.timingOk (c : Config) : Bool :=
  decide (1 ≤ c.scanSpan) && decide (c.scanSpan ≤ 4) && decide (c.oeOnMs ≤ c.scanPeriodMs) &&
    decide (1 ≤ c.scanPeriodMs) && decide (1 ≤ c.latchHoldUs)

/-- A well-formed configuration (R4, R5). -/
def Config.wf (c : Config) : Bool :=
  c.sourceValues && c.catSizeOk && c.windowOk && c.iconsOk && c.rowselMap.injective &&
    c.timingOk && c.copyOrderOk

end Sys2Proof
end

