-- ==== Sys2Proof/Safety.lean ====
section
/-!
DEFINITION. What claims are stated in: the launch premises and the cut of
spec/70_reset_and_hazards.md R194 and R207, the invariant of the block, and the predicates that
name a rule's words apart from the definitions that follow them.
-/

namespace Sys2Proof.Machine

open Sys2Proof

/-! ## Premises a claim may name (spec/70_reset_and_hazards.md R207) -/

/-- NoFault: STATUS bits 1 to 3 are 0. -/
def State.noFault (s : State) : Bool := !s.fConfig && !s.fResource && !s.fNoBuf

/-- NoReject: STATUS bit 4 is 0. -/
def State.noReject (s : State) : Bool := !s.eRej

/-- A cut: AP = IDLE, no command pending a response, no fatal bit
(spec/70_reset_and_hazards.md R194). -/
def State.atCut (s : State) : Bool := decide (s.ap = 0) && s.cmd.isNone && s.noFault

/-- Booted(ptr): the state after reset with DMEM `m`, `SETBUF ptr` and `INIT`, both answered OK,
and no scanner step (R207). There is none where SETBUF or INIT would not be answered OK: the window
at `ptr` leaves DMEM, or the catalog is not valid. INIT draws plat_ok (spec/60_exceptions.md R174);
that it is 1 right after reset is the model's choice (log 15). -/
def State.booted (c : Config) (m : List Host.Cell) (ptr : Addr) : Option State :=
  if windowInDmem c ptr && catalogValid c then
    match catEntry c c.defaultAnim with
    | none => none
    | some e =>
      some { State.resetWith c m with
        started := true, cur := c.defaultAnim, rateEff := e.rate, force := true,
        scanBase := ptr, bufValid := true, rsp := some .ok }
  else none

/-! ## The invariant of the block -/

/-- The scanner as reset leaves it: (S, PH) = (0, 0), the pins at their reset values, nothing
emitted (spec/42_scan_engine.md R120; spec/70_reset_and_hazards.md R191). -/
def State.scannerAtRest (s : State) : Prop :=
  s.scanline = 0 ∧ s.ph = 0 ∧ s.si = 0 ∧ s.oe = false ∧ s.lat = false ∧ s.rowA = false ∧
    s.rowB = false ∧ s.out = []

/-- The frame-copy engine's invariant while STARTED = 1 (spec/40_anim_commands.md R86;
spec/10_state.md R12 to R15). -/
def State.engineOk (s : State) : Prop :=
  catalogValid s.cfg = true ∧ s.acc.toNat < s.rateEff.toNat ∧
    ∃ e, catEntry s.cfg s.cur = some e ∧ s.cursor.toNat < e.length.toNat

/-- The pins LAT and OE against the phase: LAT = 1 exactly between LATHI and LATLO, OE = 0 from
OEOFF to OEON and 1 after it (spec/42_scan_engine.md R127 to R132, R137). -/
def State.pinsOk (s : State) : Bool :=
  (s.lat == (s.ph == 6 || s.ph == 7)) &&
    (!(decide (5 ≤ s.ph) && decide (s.ph ≤ 9)) || !s.oe) &&
    (!(s.ph == 10 || s.ph == 11) || s.oe)

/-- What every reachable state of a well-formed configuration meets. -/
structure BlockInv (s : State) : Prop where
  /-- R4, R5. -/
  cfgWf : s.cfg.wf = true
  /-- DMEM is in canonical form and lists no cell at or above DMEM_SIZE (R40). -/
  memWf : Memory.wf s.cfg.dmemSize s.dmem = true
  /-- PH holds 0..11 (R22). -/
  phLegal : s.ph.toNat < 12
  /-- AP = 3 never occurs (R20). -/
  apLegal : s.ap ≠ 3
  /-- OI holds 0..2 (R20). -/
  oiLegal : s.oi ≠ 3
  /-- SI holds 0..SCAN_SPAN-1 (R136). -/
  siLegal : s.si.toNat < s.cfg.scanSpan
  /-- DISP holds a frame index (R19). -/
  dispLegal : s.disp.toNat < s.cfg.numOfFrames
  /-- SCAN_BASE + 64 ≤ DMEM_SIZE, the 64 being FRAME_SIZE, while BUF_VALID = 1 (R23). -/
  window : s.bufValid = true → s.scanBase.toNat + s.cfg.frameSize ≤ s.cfg.dmemSize
  /-- R86. -/
  engine : s.started = true → s.engineOk
  /-- The frame-copy sequencer moves only after INIT (R163). -/
  busyStarted : s.ap ≠ 0 → s.started = true
  /-- At most one of STARTED, F_CONFIG, F_RESOURCE is 1 (R26). -/
  oneOutcome : ¬ (s.started = true ∧ s.fConfig = true) ∧ ¬ (s.started = true ∧ s.fResource = true) ∧
    ¬ (s.fConfig = true ∧ s.fResource = true)
  /-- F_NOBUF needs STARTED = 1 (R170). -/
  noBufStarted : s.fNoBuf = true → s.started = true
  /-- Before INIT, before a buffer is registered and after F_NOBUF the scanner rests
  (R120, R163). -/
  resting : s.started = false ∨ s.bufValid = false ∨ s.fNoBuf = true → s.scannerAtRest
  /-- OVR and EN hold their reset values until INIT (R82). -/
  beforeInit : s.started = false → s.ovr = 0 ∧ s.en = 0
  /-- The pins follow the phase (R137). -/
  pins : s.pinsOk = true

/-! ## The words of a rule, apart from the definitions that follow it -/

/-- A reserved encoding, by the fields of the word as a number (spec/30_encoding.md R64). -/
def reservedWord (w : CmdWord) : Bool :=
  let op := w.toNat / 65536
  let arg := w.toNat % 65536
  decide (op = 0) || decide (7 ≤ op) || (decide (op = 1) && decide (arg ≠ 0)) ||
    (decide (op = 2) && decide (256 ≤ arg)) || (decide (op = 4) && decide (8 ≤ arg)) ||
    (decide (op = 5) && decide (arg ≠ 0))

/-- The cases (a) to (g) in which a command is rejected (spec/60_exceptions.md R164). -/
def rejectCause (w : CmdWord) (s : State) : Bool :=
  let op := w.toNat / 65536
  let arg := w.toNat % 65536
  reservedWord w ||
    (decide (op = 1) && (s.started || s.fConfig || s.fResource)) ||
    ((decide (2 ≤ op) && decide (op ≤ 5)) && !s.started) ||
    (decide (op = 2) && decide (s.cfg.numAnims ≤ arg)) ||
    (decide (op = 3) && decide (arg = 0)) ||
    (decide (op = 4) && decide (arg % 4 = 3)) ||
    (decide (op = 6) && decide (s.cfg.dmemSize < arg + s.cfg.frameSize))

/-- A change of the next state, where there is one. -/
def onNext (f : State → State) :
    Host.Outcome State Fault Refusal → Host.Outcome State Fault Refusal
  | .next s => .next (f s)
  | .fault r => .fault r
  | .refused r => .refused r

/-- `s` with the frame-copy engine's registers of `a` (spec/60_exceptions.md R179). -/
def withEngineRegs (s a : State) : State :=
  { s with cur := a.cur, cursor := a.cursor, acc := a.acc, rateEff := a.rateEff, ovr := a.ovr,
           force := a.force, en := a.en, disp := a.disp, ap := a.ap, ci := a.ci, oi := a.oi }

/-- `s` with the scanner's registers of `a`, all that spec/10_state.md R21 to R25 lists (SCAN_BASE and
BUF_VALID among them) with SI, and the trace (spec/60_exceptions.md R179). -/
def withScannerRegs (s a : State) : State :=
  { s with scanline := a.scanline, ph := a.ph, si := a.si, scanBase := a.scanBase,
           bufValid := a.bufValid, oe := a.oe, lat := a.lat, rowA := a.rowA, rowB := a.rowB,
           out := a.out }

/-- The scanner's micro-steps (format SSEQ). -/
def scannerOps : List Instr :=
  [.shift3, .shift2, .shift1, .shift0, .oeoff, .lathi, .latwait, .latlo, .rowsel, .oeon, .adv,
    .sleep]

/-- The frame-copy sequencer's micro-steps (format ASEQ). -/
def engineOps : List Instr := [.copyb, .ovlb]

/-! ## The trace of the scanner (spec/42_scan_engine.md R135 to R137, R140) -/

/-- The offsets from SCAN_BASE + 4*S of the bytes of one cycle, in the order they are sent: for
i = 0..SCAN_SPAN-1, 48 + i, 32 + i, 16 + i, i (R122, R136). -/
def cycleOffsets (c : Config) : List Nat :=
  (List.range c.scanSpan).flatMap fun i => [48 + i, 32 + i, 16 + i, i]

/-- The events of SLEEP: one wait with the rows lit throughout, or, dimmed, the lit part if there
is one, the blanking and the rest (R134, R135). -/
def sleepEvents (c : Config) : List Event :=
  if c.oeOnMs = c.scanPeriodMs then [.sleepMs c.scanPeriodMs]
  else if c.oeOnMs = 0 then [.oe false, .sleepMs c.scanPeriodMs]
  else [.sleepMs c.oeOnMs, .oe false, .sleepMs (c.scanPeriodMs - c.oeOnMs)]

/-- The events of the scan cycle of scanline `S`, `byteAt k` being the byte sent for offset `k`
(R140; R135 and R136 for the other values of OE_ON_MS and SCAN_SPAN). -/
def cycleEvents (c : Config) (S : BitVec 2) (byteAt : Nat → Byte) : List Event :=
  (cycleOffsets c).map (fun k => .tx (byteAt k)) ++
    [.oe false, .lat true, .delayUs c.latchHoldUs, .lat false,
      .row (c.rowselMap.code S).1 (c.rowselMap.code S).2, .oe true] ++ sleepEvents c

/-- An event with the byte of a `Tx` forgotten. -/
def eventShape : Event → Event
  | .tx _ => .tx 0
  | e => e

/-- The events of a cycle with the bytes forgotten. -/
def cycleShape (c : Config) (S : BitVec 2) : List Event := cycleEvents c S fun _ => 0

/-- How many events of its cycle the scanner has emitted: four for each round of the loader behind
it and one for each SHIFT of the present round, then one a step; ADV emits none (R136, R140). -/
def State.emitted (s : State) : Nat :=
  if s.ph.toNat < 4 then 4 * s.si.toNat + s.ph.toNat
  else 4 * s.cfg.scanSpan + min (s.ph.toNat - 4) 6

/-- OUT is the concatenation of the cycles of scanlines 0, 1, 2, 3, 0, ... and the part of the
present one that PH and SI say has been emitted; S names the present cycle, or, after ADV, the next
one; SI counts in the loader alone (R136, R140). -/
def State.traceOk (s : State) : Prop :=
  ∃ n : Nat,
    s.out.map eventShape =
      (List.range n).flatMap (fun i => cycleShape s.cfg (BitVec.ofNat 2 i)) ++
        (cycleShape s.cfg (BitVec.ofNat 2 n)).take s.emitted ∧
    s.scanline = BitVec.ofNat 2 (if s.ph = 11 then n + 1 else n) ∧
    (4 ≤ s.ph.toNat → s.si = 0)

/-! ## The frame buffer of the frame-copy engine (spec/41_update_framecopy.md R103, R104, R109) -/

/-- Byte `j` of the engine's frame buffer. -/
def State.fbByte (s : State) (j : Nat) : Byte := Memory.read s.dmem (fbAddr s j)

/-- Byte `j` of the frame DISP names. -/
def State.baseByte (s : State) (j : Nat) : Byte := Memory.read s.cfg.sheet (sheetAddr s j)

/-- The bits of byte `j` that belong to some icon. -/
def iconBits (c : Config) (j : Nat) : Byte :=
  (if c.poo.byte = j then c.poo.mask else 0) ||| (if c.sick.byte = j then c.sick.mask else 0) |||
    (if c.sleep.byte = j then c.sleep.mask else 0)

/-- The bits of icon `x` in the frame buffer are as EN says (R109). -/
def State.iconDrawn (s : State) (x : BitVec 2) : Prop :=
  ∀ i, iconOf s.cfg x = some i →
    s.fbByte i.byte &&& i.mask = if iconShown s x then i.mask else s.baseByte i.byte &&& i.mask

/-- Outside the icons' bits the frame buffer holds the displayed frame. -/
def State.spriteDrawn (s : State) : Prop :=
  ∀ j, j < 64 →
    s.fbByte j &&& ~~~ iconBits s.cfg j = s.baseByte j &&& ~~~ iconBits s.cfg j

/-- How far the frame of the UPDATE in progress is drawn: during the copy, the bytes COPY_ORDER
lists before CI; during the overlay pass, the sprite and the icons before OI; at rest, the
sprite. -/
def State.frameOk (s : State) : Prop :=
  (s.ap = 1 → ∀ i, i < s.ci.toNat → ∀ j, s.cfg.copyOrder[i]? = some j →
    s.fbByte j.toNat = s.baseByte j.toNat) ∧
  (s.ap ≠ 1 → s.spriteDrawn) ∧
  (s.ap = 2 → ∀ x : BitVec 2, x.toNat < s.oi.toNat → s.iconDrawn x)

/-- The choice leaves the engine's window to the engine: it is no reset and no host write into the
64 cells at ANIM_FB_BASE (spec/70_reset_and_hazards.md R200). -/
def leavesWindow (c : Config) : Choice → Prop
  | .rst => False
  | .hwrite a _ => ¬ (c.animFbBase ≤ a.toNat ∧ a.toNat < c.animFbBase + 64)
  | _ => True

/-! ## The refresh timer and the cursor, over accepted UPDATEs (spec/41_update_framecopy.md R101,
R107): the micro-steps between two of them end with AP = IDLE -/

/-- `n` accepted UPDATEs, the micro-steps of each having run before the next is accepted. -/
def afterUpdates : Nat → State → Option State
  | 0, s => some s
  | n + 1, s =>
    match afterUpdates n s with
    | none => none
    | some t =>
      match exec .update { t with ap := 0 } with
      | .next u => some u
      | .fault _ => none
      | .refused _ => none

/-- ANIM steps an UPDATE in progress still takes (spec/41_update_framecopy.md R105). -/
def stepsLeft (s : State) : Nat :=
  match s.ap.toNat with
  | 1 => 67 - s.ci.toNat
  | 2 => 3 - s.oi.toNat
  | _ => 0

end Sys2Proof.Machine
end

