-- ==== Sys2Proof/Certificates/Slice0/Obligations.lean ====
section
/-!
DEFINITION. The statements for the provers. Each says what one rule, or one part of the machine,
does; a result written as one record update of `s` says also that nothing else of the state
changes (its frame), DMEM and every register included. Where a byte of DMEM is stored, the new
memory `m` is given by what every address reads. A number of a rule that is a parameter's value
(64, 167, 4, 16) stands as that number where the statement is about well-formed configurations, or
ones with the values of R4, and as the parameter's name where it holds for every value.
-/

open Sys2Proof Sys2Proof.Machine

/-! ## The configuration -/

/-- R4, R5: what a well-formed configuration is. That LATCH_HOLD_US is at least 1 is the model's
choice (log 28). -/
def Obligations.WellFormedMeansTableValues : Prop :=
  ∀ (c : Config), c.wf = true ↔
    (c.frameSize = 64 ∧ c.numOfFrames = 167 ∧ c.sheetSize = 10688 ∧ c.rows = 16 ∧ c.cols = 32 ∧
      c.numScanlines = 4 ∧ c.rowsPerGroup = 4 ∧ c.bytesPerScanline = 4 ∧ c.groupStride = 16 ∧
      c.scanlineStride = 4 ∧ c.tickMs = 1 ∧ c.lengthMin = 1 ∧ c.lengthMax = 255 ∧ c.addrW = 16) ∧
    (1 ≤ c.cat.length ∧ c.cat.length ≤ 256 ∧ c.defaultAnim.toNat < c.cat.length) ∧
    (c.animFbBase + 64 ≤ c.dmemSize ∧ c.dmemSize ≤ 65536) ∧
    (∀ x ∈ [c.poo, c.sick, c.sleep], x.byte < 64 ∧ x.mask ≠ 0) ∧
    ((c.poo.byte = c.sick.byte → c.poo.mask &&& c.sick.mask = 0) ∧
      (c.poo.byte = c.sleep.byte → c.poo.mask &&& c.sleep.mask = 0) ∧
      (c.sick.byte = c.sleep.byte → c.sick.mask &&& c.sleep.mask = 0)) ∧
    (∀ S T : BitVec 2, c.rowselMap.code S = c.rowselMap.code T → S = T) ∧
    (1 ≤ c.scanSpan ∧ c.scanSpan ≤ 4 ∧ c.oeOnMs.toNat ≤ c.scanPeriodMs.toNat ∧
      1 ≤ c.scanPeriodMs.toNat ∧ 1 ≤ c.latchHoldUs.toNat) ∧
    (c.copyOrder.length = 64 ∧ ∀ j : BitVec 6, j ∈ c.copyOrder)

/-! ## Reset -/

/-- R31, R190: every register at its reset value, for every configuration and every DMEM. -/
def Obligations.ResetLeavesTableValues : Prop :=
  ∀ (c : Config) (m : List Host.Cell),
    let s := State.resetWith c m
    s.started = false ∧ s.cur = 0 ∧ s.cursor = 0 ∧ s.acc = 0 ∧ s.rateEff = 0 ∧ s.ovr = 0 ∧
      s.force = false ∧ s.en = 0 ∧ s.disp = 0 ∧ s.ap = 0 ∧ s.ci = 0 ∧ s.oi = 0 ∧
      s.scanline = 0 ∧ s.ph = 0 ∧ s.scanBase = 0 ∧ s.bufValid = false ∧ s.oe = false ∧
      s.lat = false ∧ s.rowA = false ∧ s.rowB = false ∧ s.status = 0 ∧ s.dmem = m ∧ s.out = []

/-- The invariant of the block holds after reset, for every well-formed configuration and every
canonical DMEM. -/
def Obligations.ResetMeetsInvariant : Prop :=
  ∀ (c : Config) (m : List Host.Cell), c.wf = true → Memory.wf c.dmemSize m = true →
    BlockInv (State.resetWith c m)

/-- R190: rst, whatever either sequencer was doing; DMEM, the configuration and what belongs to
the environment stay (log 25). -/
def Obligations.RstRestoresResetValues : Prop :=
  ∀ (s : State) (cs : List Choice),
    step { s with choices := .rst :: cs } =
      .next { State.resetWith s.cfg s.dmem with
        platOk := s.platOk, txStatus := s.txStatus, choices := cs, draws := s.draws }

/-- R207, R31: SETBUF and INIT after reset, both answered OK, give the state Booted(ptr) names, and
it is given in no other case. That INIT is answered OK, and not RESOURCE_FAULT, with a valid catalog
rests on plat_ok = 1 in `State.resetWith`, which is the model's choice (DESIGN CHOICE, log 15): R174
makes plat_ok a draw of the environment, and the spec gives it no reset value. -/
def Obligations.SetbufThenInitBoots : Prop :=
  ∀ (c : Config) (m : List Host.Cell) (ptr : Addr) (s : State),
    (State.booted c m ptr = some s ↔
      ∃ u, exec (.setbuf ptr) (State.resetWith c m) = .next u ∧ u.rsp = some .ok ∧
        exec .init u = .next s ∧ s.rsp = some .ok) ∧
    (State.booted c m ptr = some s →
      catalogValid c = true ∧ ptr.toNat + c.frameSize ≤ c.dmemSize ∧
        (∃ e, c.cat[c.defaultAnim.toNat]? = some e ∧ s.rateEff = e.rate) ∧
        s.status = 1 ∧ s.bufValid = true ∧ s.scanBase = ptr ∧ s.cur = c.defaultAnim ∧
        s.cursor = 0 ∧ s.acc = 0 ∧ s.force = true ∧ s.ovr = 0 ∧ s.en = 0 ∧ s.dmem = m ∧
        s.scannerAtRest)

/-! ## Selection of the next operation -/

/-- R66, R120: with SCAN chosen and enabled, a step is the operation PH selects. -/
def Obligations.ScanStepRunsSelectedOperation : Prop :=
  ∀ (s : State) (i : Instr) (cs : List Choice),
    s.started = true → s.fNoBuf = false → decode (.sseq s.ph) = .ok i →
    step { s with choices := .scan :: cs } = exec i { s with choices := cs }

/-- R67: with ANIM chosen and the block started, a step is the operation AP selects. -/
def Obligations.AnimStepRunsSelectedOperation : Prop :=
  ∀ (s : State) (i : Instr) (cs : List Choice),
    s.started = true → decode (.aseq s.ap) = .ok i →
    step { s with choices := .anim :: cs } = exec i { s with choices := cs }

/-- R72: with PORT chosen and AP = IDLE, a step takes the waiting word and runs the command it
decodes to. -/
def Obligations.PortStepRunsAcceptedCommand : Prop :=
  ∀ (s : State) (w : CmdWord) (i : Instr) (cs : List Choice),
    s.ap = 0 → s.cmd = some w → decode (.cmd w) = .ok i →
    step { s with choices := .port :: cs } = exec i { s with choices := cs, cmd := none }

/-- R72: a word offered while AP is not IDLE waits: it stays at the port and nothing happens. -/
def Obligations.OfferedWordWaitsWhileBusy : Prop :=
  ∀ (s : State) (w : CmdWord) (cs : List Choice), s.ap ≠ 0 → s.cmd = none →
    step { s with choices := .offer w :: .port :: cs } =
      .next { s with choices := .port :: cs, cmd := some w } ∧
    step { s with choices := .port :: cs, cmd := some w } =
      .next { s with choices := cs, cmd := some w }

/-- R120, R191, R163: while STARTED = 0 neither sequencer has a step, and after F_NOBUF the scanner
has none. -/
def Obligations.SequencersHeldUntilStarted : Prop :=
  ∀ (s : State) (cs : List Choice),
    (s.started = false → step { s with choices := .anim :: cs } = .next { s with choices := cs }) ∧
    (s.started = false ∨ s.fNoBuf = true →
      step { s with choices := .scan :: cs } = .next { s with choices := cs })

/-! ## Encoding -/

/-- Words written out from R62, R66, R67 and R74 decode to the operation they stand for. -/
def Obligations.SampleWordsDecode : Prop :=
  decode (.cmd 0x10000) = .ok .init ∧ decode (.cmd 0x20001) = .ok (.select 1) ∧
    decode (.cmd 0x3FFFF) = .ok (.setrate 0xFFFF) ∧
    decode (.cmd 0x40006) = .ok (.showicon 2 true) ∧ decode (.cmd 0x50000) = .ok .update ∧
    decode (.cmd 0x600C0) = .ok (.setbuf 0x00C0) ∧ decode (.aseq 0b10) = .ok .ovlb ∧
    decode (.sseq 0b1011) = .ok .sleep ∧ decode (.cmd 0x20103) = .error .mustBeZero

/-- Decoding gives back every operation from its encoding, with every operand value. -/
def Obligations.DecodeInvertsEncode : Prop :=
  ∀ i : Instr, decode (encode i) = .ok i

/-- Every selector has one meaning: what decodes to an operation is that operation's encoding. -/
def Obligations.EncodeInvertsDecode : Prop :=
  ∀ (c : Code) (i : Instr), decode c = .ok i → encode i = c

/-- R74: a command word decodes to an operation exactly when it matches that operation's row, and
the row it matches gives the mnemonic. -/
def Obligations.CommandMatchesItsTableRow : Prop :=
  ∀ (w : CmdWord),
    (∀ i, decode (.cmd w) = .ok i → w.toNat &&& (tableRow i).1 = (tableRow i).2) ∧
    (∀ j, (∃ v, encode j = .cmd v) → w.toNat &&& (tableRow j).1 = (tableRow j).2 →
      ∃ i, decode (.cmd w) = .ok i ∧ mnemonic i = mnemonic j)

/-- R64: the reserved encodings are exactly the words that decode to no command; the port accepts
such a word and rejects it. -/
def Obligations.ReservedWordsAreRejected : Prop :=
  ∀ (w : CmdWord),
    (reservedWord w = true ↔ ∀ i, decode (.cmd w) ≠ .ok i) ∧
    ∀ (s : State) (cs : List Choice), reservedWord w = true → s.ap = 0 → s.cmd = some w →
      step { s with choices := .port :: cs } =
        .next { s with choices := cs, cmd := none, eRej := true, rsp := some .rejected }

/-! ## The commands -/

/-- R81: CatalogValid, entry by entry, the sum exact. -/
def Obligations.CatalogValidMeansEveryEntry : Prop :=
  ∀ (c : Config), c.sourceValues = true → (catalogValid c = true ↔
    ∀ (i : Nat) (e : CatEntry), c.cat[i]? = some e →
      1 ≤ e.length.toNat ∧ 1 ≤ e.rate.toNat ∧ e.offset.toNat + e.length.toNat ≤ c.numOfFrames)

/-- R82: INIT, every branch: rejected, CONFIG_FAULT whatever plat_ok is, RESOURCE_FAULT, or the
block is started. The premise holds of every well-formed configuration. -/
def Obligations.InitStartsOrFaults : Prop :=
  ∀ (s : State) (e : CatEntry), s.cfg.cat[s.cfg.defaultAnim.toNat]? = some e →
    if s.started = true ∨ s.fConfig = true ∨ s.fResource = true then
      exec .init s = .next { s with eRej := true, rsp := some .rejected }
    else if catalogValid s.cfg = false then
      exec .init s = .next { s with fConfig := true, rsp := some .configFault }
    else if s.platOk = false then
      exec .init s = .next { s with fResource := true, rsp := some .resourceFault }
    else
      exec .init s =
        .next { s with cur := s.cfg.defaultAnim, cursor := 0, acc := 0, rateEff := e.rate,
                       force := true, started := true, rsp := some .ok }

/-- R83: SELECT, every branch. -/
def Obligations.SelectSwitchesAnimation : Prop :=
  ∀ (s : State) (id : BitVec 8),
    if s.started = false ∨ s.cfg.cat.length ≤ id.toNat then
      exec (.select id) s = .next { s with eRej := true, rsp := some .rejected }
    else if id = s.cur then
      exec (.select id) s = .next { s with rsp := some .ok }
    else
      exec (.select id) s =
        .next { s with cur := id, cursor := 0, force := true, rsp := some .ok }

/-- R84: SETRATE writes OVR only, or is rejected. -/
def Obligations.SetrateWritesOverrideOnly : Prop :=
  ∀ (s : State) (ms : BitVec 16),
    if s.started = false ∨ ms = 0 then
      exec (.setrate ms) s = .next { s with eRej := true, rsp := some .rejected }
    else
      exec (.setrate ms) s = .next { s with ovr := ms, rsp := some .ok }

/-- R85: SHOWICON writes the one flag it names, or is rejected. -/
def Obligations.ShowiconWritesOneFlag : Prop :=
  ∀ (s : State) (icon : BitVec 2) (enabled : Bool),
    if s.started = false ∨ icon = 3 then
      exec (.showicon icon enabled) s = .next { s with eRej := true, rsp := some .rejected }
    else
      ∃ en : BitVec 3,
        exec (.showicon icon enabled) s = .next { s with en := en, rsp := some .ok } ∧
        ∀ k, k < 3 → en.getLsbD k = if k = icon.toNat then enabled else s.en.getLsbD k

/-- R150: SETBUF registers a window of FRAME_SIZE bytes that lies in DMEM and rejects any other, in
every state. -/
def Obligations.SetbufRegistersWindow : Prop :=
  ∀ (s : State) (ptr : BitVec 16),
    if s.cfg.dmemSize < ptr.toNat + s.cfg.frameSize then
      exec (.setbuf ptr) s = .next { s with eRej := true, rsp := some .rejected }
    else
      exec (.setbuf ptr) s = .next { s with scanBase := ptr, bufValid := true, rsp := some .ok }

/-- R100, R101, R102, R112: UPDATE, every branch, under the engine's invariant (R86): rejected
before INIT; an elapse when FORCE is set or the tick reaches RATE_EFF, with the frame index exact;
one more tick otherwise. -/
def Obligations.UpdateTicksOrElapses : Prop :=
  ∀ (s : State), s.cfg.wf = true → (s.started = true → s.engineOk) →
    if s.started = false then
      exec .update s = .next { s with eRej := true, rsp := some .rejected }
    else
      ∃ (e : CatEntry), s.cfg.cat[s.cur.toNat]? = some e ∧
        if s.force = true ∨ s.rateEff.toNat ≤ s.acc.toNat + 1 then
          ∃ d k : BitVec 8, d.toNat = e.offset.toNat + s.cursor.toNat ∧
            k.toNat = (s.cursor.toNat + 1) % e.length.toNat ∧
            exec .update s =
              .next { s with disp := d, cursor := k, acc := 0, force := false,
                             rateEff := if s.ovr = 0 then e.rate else s.ovr,
                             ap := 1, ci := 0, rsp := none }
        else
          ∃ a : BitVec 16, a.toNat = s.acc.toNat + 1 ∧
            exec .update s = .next { s with acc := a, ap := 2, oi := 0, rsp := none }

/-- R108: with length 1 an elapse leaves CURSOR at 0 and shows frame `offset`. -/
def Obligations.LengthOneNeverAdvances : Prop :=
  ∀ (s t : State) (e : CatEntry), s.cfg.wf = true → s.started = true → s.engineOk →
    s.cfg.cat[s.cur.toNat]? = some e → e.length = 1 → exec .update s = .next t →
    t.cursor = 0 ∧ (t.ap = 1 → t.disp = e.offset)

/-- R164: a waiting word is rejected in exactly the cases (a) to (g), and then nothing but E_REJ
and the response changes. -/
def Obligations.CommandRejectedExactlyWhenCauseHolds : Prop :=
  ∀ (s : State) (w : CmdWord) (cs : List Choice), s.ap = 0 → s.cmd = some w →
    (rejectCause w s = true →
      step { s with choices := .port :: cs } =
        .next { s with choices := cs, cmd := none, eRej := true, rsp := some .rejected }) ∧
    (rejectCause w s = false → ∀ t, step { s with choices := .port :: cs } = .next t →
      t.eRej = s.eRej ∧ t.rsp ≠ some .rejected)

/-! ## The micro-steps of the frame-copy engine -/

/-- R103: COPYB copies one byte, in the order COPY_ORDER gives, and moves on; every other byte of
DMEM reads as before. -/
def Obligations.CopybCopiesOneByte : Prop :=
  ∀ (s : State), s.cfg.wf = true → Memory.wf s.cfg.dmemSize s.dmem = true → s.disp.toNat < 167 →
    ∃ (j : BitVec 6) (m : List Host.Cell), s.cfg.copyOrder[s.ci.toNat]? = some j ∧
      exec .copyb s =
        .next (if s.ci = 63 then { s with dmem := m, ap := 2, oi := 0 }
               else { s with dmem := m, ci := s.ci + 1 }) ∧
      ∀ a, Memory.read m a =
        if a = s.cfg.animFbBase + j.toNat then
          Memory.read s.cfg.sheet (s.disp.toNat * 64 + j.toNat)
        else Memory.read s.dmem a

/-- R104, R105: OVLB writes the byte of icon OI, and the third gives the UPDATE's response; every
other byte of DMEM reads as before. -/
def Obligations.OvlbAppliesOneIcon : Prop :=
  ∀ (s : State), s.cfg.wf = true → Memory.wf s.cfg.dmemSize s.dmem = true →
    s.disp.toNat < 167 → s.oi ≠ 3 →
    ∃ (x : Icon) (m : List Host.Cell), iconOf s.cfg s.oi = some x ∧
      exec .ovlb s =
        .next (if s.oi = 2 then { s with dmem := m, ap := 0, rsp := some .ok }
               else { s with dmem := m, oi := s.oi + 1 }) ∧
      ∀ a, Memory.read m a =
        if a = s.cfg.animFbBase + x.byte then
          (if s.en.getLsbD s.oi.toNat then Memory.read s.dmem a ||| x.mask
           else (Memory.read s.dmem a &&& ~~~ x.mask) |||
             (Memory.read s.cfg.sheet (s.disp.toNat * 64 + x.byte) &&& x.mask))
        else Memory.read s.dmem a

/-! ## The micro-steps of the scanner -/

/-- R123 to R126, R165: without a buffer each SHIFT raises F_NOBUF and changes nothing else,
whatever SCAN_SPAN and SI are; with one, and SCAN_SPAN = 1, it sends the byte of its group and moves
on. -/
def Obligations.ShiftSendsByteOrFaults : Prop :=
  ∀ (s : State),
    (s.bufValid = false →
      exec .shift3 s = .next { s with fNoBuf := true } ∧
      exec .shift2 s = .next { s with fNoBuf := true } ∧
      exec .shift1 s = .next { s with fNoBuf := true } ∧
      exec .shift0 s = .next { s with fNoBuf := true }) ∧
    (s.bufValid = true → s.cfg.sourceValues = true → s.scanBase.toNat + 64 ≤ s.cfg.dmemSize →
      s.cfg.scanSpan = 1 →
      let byteAt (k : Nat) := Memory.read s.dmem (s.scanBase.toNat + 4 * s.scanline.toNat + k)
      exec .shift3 s = .next { s with out := s.out ++ [.tx (byteAt 48)], ph := 1 } ∧
      exec .shift2 s = .next { s with out := s.out ++ [.tx (byteAt 32)], ph := 2 } ∧
      exec .shift1 s = .next { s with out := s.out ++ [.tx (byteAt 16)], ph := 3 } ∧
      exec .shift0 s = .next { s with out := s.out ++ [.tx (byteAt 0)], ph := 4 })

/-- R136: with SCAN_SPAN = n in 2..4 and a buffer each fetch adds SI, and SHIFT0 either goes round for
the next byte of each row start or leaves the loader. -/
def Obligations.ShiftSpanGoesRound : Prop :=
  ∀ (s : State), s.cfg.sourceValues = true → 2 ≤ s.cfg.scanSpan → s.cfg.scanSpan ≤ 4 →
    s.si.toNat < s.cfg.scanSpan → s.bufValid = true →
    s.scanBase.toNat + 64 ≤ s.cfg.dmemSize →
    let byteAt (k : Nat) :=
      Memory.read s.dmem (s.scanBase.toNat + 4 * s.scanline.toNat + k + s.si.toNat)
    exec .shift3 s = .next { s with out := s.out ++ [.tx (byteAt 48)], ph := 1 } ∧
    exec .shift2 s = .next { s with out := s.out ++ [.tx (byteAt 32)], ph := 2 } ∧
    exec .shift1 s = .next { s with out := s.out ++ [.tx (byteAt 16)], ph := 3 } ∧
    exec .shift0 s =
      .next (if s.si.toNat = s.cfg.scanSpan - 1 then
               { s with out := s.out ++ [.tx (byteAt 0)], si := 0, ph := 4 }
             else { s with out := s.out ++ [.tx (byteAt 0)], si := s.si + 1, ph := 0 })

/-- R127, R128, R130, R132: the four steps that drive OE and LAT; the event is emitted also when
the pin has the value already. -/
def Obligations.PinStepsDriveOnePin : Prop :=
  ∀ (s : State),
    (decode (.sseq 4) = .ok .oeoff ∧
      exec .oeoff s = .next { s with oe := false, out := s.out ++ [.oe false], ph := 5 }) ∧
    (decode (.sseq 5) = .ok .lathi ∧
      exec .lathi s = .next { s with lat := true, out := s.out ++ [.lat true], ph := 6 }) ∧
    (decode (.sseq 7) = .ok .latlo ∧
      exec .latlo s = .next { s with lat := false, out := s.out ++ [.lat false], ph := 8 }) ∧
    (decode (.sseq 9) = .ok .oeon ∧
      exec .oeon s = .next { s with oe := true, out := s.out ++ [.oe true], ph := 10 })

/-- R129: LATWAIT. -/
def Obligations.LatwaitHoldsLatch : Prop :=
  decode (.sseq 6) = .ok .latwait ∧ ∀ (s : State),
    exec .latwait s = .next { s with out := s.out ++ [.delayUs s.cfg.latchHoldUs], ph := 7 }

/-- R131: ROWSEL drives the code of S, whatever the map; the default map is binary. -/
def Obligations.RowselDrivesCodeOfScanline : Prop :=
  decode (.sseq 8) = .ok .rowsel ∧ (∀ (s : State),
    let c := s.cfg.rowselMap.code s.scanline
    exec .rowsel s =
      .next { s with rowA := c.1, rowB := c.2, out := s.out ++ [.row c.1 c.2], ph := 9 }) ∧
  ∀ S : BitVec 2, RowselMap.binary.code S = (S.getLsbD 0, S.getLsbD 1)

/-- R133: ADV. -/
def Obligations.AdvAdvancesScanline : Prop :=
  decode (.sseq 10) = .ok .adv ∧ ∀ (s : State), s.cfg.sourceValues = true →
    ∃ S : BitVec 2, S.toNat = (s.scanline.toNat + 1) % 4 ∧
    exec .adv s = .next { s with scanline := S, ph := 11 }

/-- R134, R135: SLEEP with the rows lit for the whole period, for a part of it, or not at all. -/
def Obligations.SleepWaitsScanPeriod : Prop :=
  ∀ (s : State), s.cfg.oeOnMs.toNat ≤ s.cfg.scanPeriodMs.toNat →
    if s.cfg.oeOnMs = s.cfg.scanPeriodMs then
      exec .sleep s = .next { s with out := s.out ++ [.sleepMs s.cfg.scanPeriodMs], ph := 0 }
    else if s.cfg.oeOnMs = 0 then
      exec .sleep s =
        .next { s with oe := false, ph := 0,
                       out := s.out ++ [.oe false, .sleepMs s.cfg.scanPeriodMs] }
    else
      ∃ rest : BitVec 16, rest.toNat = s.cfg.scanPeriodMs.toNat - s.cfg.oeOnMs.toNat ∧
      exec .sleep s =
        .next { s with oe := false, ph := 0,
                       out := s.out ++ [.sleepMs s.cfg.oeOnMs, .oe false, .sleepMs rest] }

/-! ## The host's memory port -/

/-- R47: HWRITE stores one byte and HREAD returns one, in every state; every other byte reads as
before. -/
def Obligations.HostPortReadsAndWritesOneByte : Prop :=
  ∀ (s : State) (a : Addr) (v : Byte) (cs : List Choice),
    Memory.wf s.cfg.dmemSize s.dmem = true → a.toNat < s.cfg.dmemSize →
    (∃ m, step { s with choices := .hwrite a v :: cs } =
        .next { s with choices := cs, dmem := m } ∧
      ∀ b, Memory.read m b = if b = a.toNat then v else Memory.read s.dmem b) ∧
    step { s with choices := .hread a :: cs } =
      .next { s with choices := cs, hRdata := Memory.read s.dmem a.toNat }

/-! ## Whole-machine rules -/

/-- R206: the configuration never changes. -/
def Obligations.StepKeepsConfiguration : Prop :=
  ∀ (s t : State), step s = .next t → t.cfg = s.cfg

/-- R26: which bit of STATUS is which. -/
def Obligations.StatusWordHasItsBits : Prop :=
  ∀ (s : State),
    s.status.getLsbD 0 = s.started ∧ s.status.getLsbD 1 = s.fConfig ∧
    s.status.getLsbD 2 = s.fResource ∧ s.status.getLsbD 3 = s.fNoBuf ∧
    s.status.getLsbD 4 = s.eRej

/-- R63, R72, R73: the code on rsp_code of each response, given while rsp_valid = 1. -/
def Obligations.ResponsesCarryTheirCodes : Prop :=
  ∀ (s : State),
    (s.rspValid = true ↔ s.rspCode ≠ none) ∧ (s.rsp = none ↔ s.rspCode = none) ∧
    (s.rsp = some .ok ↔ s.rspCode = some 0) ∧ (s.rsp = some .rejected ↔ s.rspCode = some 1) ∧
    (s.rsp = some .configFault ↔ s.rspCode = some 2) ∧
    (s.rsp = some .resourceFault ↔ s.rspCode = some 3)

/-- R160: each event of the taxonomy sets its bit of STATUS and no other, and gives its code; a
scanner without a buffer gives none, and a transmit, whatever its status, sets no bit and gives
none. -/
def Obligations.EventsSetStatusBitAndCode : Prop :=
  (∀ (s : State), s.started = false → s.fConfig = false → s.fResource = false →
    (catalogValid s.cfg = false → ∃ t, exec .init s = .next t ∧
      t.status = s.status ||| 0b00010#5 ∧ t.rspCode = some 2) ∧
    (catalogValid s.cfg = true → s.platOk = false → ∃ t, exec .init s = .next t ∧
      t.status = s.status ||| 0b00100#5 ∧ t.rspCode = some 3)) ∧
  (∀ (s : State) (i : Instr), i ∈ [.shift3, .shift2, .shift1, .shift0] →
    (s.bufValid = false → ∃ t, exec i s = .next t ∧
      t.status = s.status ||| 0b01000#5 ∧ t.rsp = s.rsp) ∧
    (s.bufValid = true → ∀ t, exec i s = .next t → t.status = s.status ∧ t.rsp = s.rsp)) ∧
  (∀ (s : State) (w : CmdWord) (cs : List Choice), s.ap = 0 → s.cmd = some w →
    rejectCause w s = true → ∃ t, step { s with choices := .port :: cs } = .next t ∧
      t.status = s.status ||| 0b10000#5 ∧ t.rspCode = some 1)

/-- R26: every STATUS bit, once 1, stays 1 until reset. -/
def Obligations.StatusBitsAreSticky : Prop :=
  ∀ (s t : State), step s = .next t → nextChoice s ≠ .rst →
    ∀ k, k < 5 → s.status.getLsbD k = true → t.status.getLsbD k = true

/-- R25: the pins are written only by scanner micro-steps, and by reset. -/
def Obligations.PinsWrittenOnlyByScanner : Prop :=
  ∀ (s t : State), step s = .next t → nextChoice s ≠ .scan → nextChoice s ≠ .rst →
    t.oe = s.oe ∧ t.lat = s.lat ∧ t.rowA = s.rowA ∧ t.rowB = s.rowB

/-- R51, R55: a step that changes a byte of DMEM is the host writing that byte, or a step of ANIM,
and then the byte lies in the engine's window. -/
def Obligations.DmemWrittenOnlyByItsWriters : Prop :=
  ∀ (s t : State) (a : Nat), BlockInv s → step s = .next t →
    Memory.read t.dmem a ≠ Memory.read s.dmem a →
    (∃ v, nextChoice s = .hwrite (BitVec.ofNat 16 a) v ∧ Memory.read t.dmem a = v) ∨
    (nextChoice s = .anim ∧ s.cfg.animFbBase ≤ a ∧ a < s.cfg.animFbBase + 64)

/-- R121: OUT only grows, and only a step of the scanner adds to it; reset empties it. -/
def Obligations.TraceGrowsOnlyByScanner : Prop :=
  ∀ (s t : State), step s = .next t → nextChoice s ≠ .rst →
    s.out <+: t.out ∧ (nextChoice s ≠ .scan → t.out = s.out)

/-- R16, R23, R24: OVR is written by no command but SETRATE, SCAN_BASE and BUF_VALID by none but
SETBUF, and by no micro-step. -/
def Obligations.OverrideAndBufferHaveOneWriter : Prop :=
  ∀ (s t : State) (i : Instr), exec i s = .next t →
    ((∀ ms, i ≠ .setrate ms) → t.ovr = s.ovr) ∧
    ((∀ p, i ≠ .setbuf p) → t.scanBase = s.scanBase ∧ t.bufValid = s.bufValid)

/-- R139, R166: no operation depends on the transmit status. -/
def Obligations.TransmitStatusIsIgnored : Prop :=
  ∀ (s : State) (i : Instr) (b : Bool),
    exec i { s with txStatus := b } = onNext (fun t => { t with txStatus := b }) (exec i s)

/-- R179: the scanner reads no register of the frame-copy engine, and writes none. -/
def Obligations.ScannerIgnoresEngineRegisters : Prop :=
  ∀ (s a : State) (i : Instr), i ∈ scannerOps →
    exec i (withEngineRegs s a) = onNext (fun t => withEngineRegs t a) (exec i s)

/-- R179: the frame-copy engine's micro-steps read no register or pin of the scanner, SCAN_BASE and
BUF_VALID among them, and write none. -/
def Obligations.EngineIgnoresScannerRegisters : Prop :=
  ∀ (s a : State) (i : Instr), i ∈ engineOps →
    exec i (withScannerRegs s a) = onNext (fun t => withScannerRegs t a) (exec i s)

/-- R163, R181: after F_CONFIG or F_RESOURCE, until reset, the bit stays set, the block stays
unstarted, the pins stay at their reset values and OUT stays empty. -/
def Obligations.FatalInitLeavesPanelBlank : Prop :=
  ∀ (s t : State), BlockInv s → s.fConfig = true ∨ s.fResource = true → step s = .next t →
    nextChoice s ≠ .rst →
    (t.fConfig = true ∨ t.fResource = true) ∧ t.started = false ∧ t.scannerAtRest

/-- R137, R202: the latch and the row-select lines change only while OE = 0, and OE rises only
with the latch idle. -/
def Obligations.LatchAndRowsChangeWhileBlanked : Prop :=
  ∀ (s t : State), BlockInv s → step s = .next t → nextChoice s ≠ .rst →
    (t.lat ≠ s.lat ∨ t.rowA ≠ s.rowA ∨ t.rowB ≠ s.rowB → s.oe = false ∧ t.oe = false) ∧
    (s.oe = false → t.oe = true → s.lat = false ∧ t.lat = false)

/-- R105: an accepted UPDATE has 67 or 3 micro-steps to go; each step of ANIM takes one, the last
one gives the response OK, and no other step but a reset takes any. -/
def Obligations.UpdateStepsCountDown : Prop :=
  (∀ (s t : State), s.started = true → exec .update s = .next t →
    stepsLeft t = 67 ∨ stepsLeft t = 3) ∧
  ∀ (s t : State), BlockInv s → s.ap ≠ 0 → step s = .next t →
    (nextChoice s = .anim →
      stepsLeft t + 1 = stepsLeft s ∧ (t.ap = 0 ↔ stepsLeft t = 0) ∧
        (t.ap = 0 → t.rsp = some .ok)) ∧
    (nextChoice s ≠ .anim → nextChoice s ≠ .rst → stepsLeft t = stepsLeft s ∧ t.ap = s.ap)

/-- R101: with FORCE = 0, `n` accepted UPDATEs that do not bring ACC to RATE_EFF leave the frame and
the cursor, and the one that does is an elapse. -/
def Obligations.TimerElapsesAtEffectiveRate : Prop :=
  ∀ (s : State) (n : Nat), s.cfg.wf = true → s.started = true → s.engineOk → s.force = false →
    (s.acc.toNat + n < s.rateEff.toNat → ∃ t, afterUpdates n s = some t ∧
      t.acc.toNat = s.acc.toNat + n ∧ t.rateEff = s.rateEff ∧ t.disp = s.disp ∧
      t.cursor = s.cursor) ∧
    (s.acc.toNat + n = s.rateEff.toNat → ∃ t, afterUpdates n s = some t ∧ t.acc = 0 ∧ t.ap = 1 ∧
      ∃ e, s.cfg.cat[s.cur.toNat]? = some e ∧
        t.disp.toNat = e.offset.toNat + s.cursor.toNat)

/-- R107, R112: from a forced elapse with CURSOR = 0, the state INIT and SELECT of another animation
leave, the elapses are the UPDATEs 1, 1 + r, 1 + 2r, ... for the effective rate r, the n-th after the
forced one shows frame `offset + n mod length`, and the UPDATEs between two elapses leave it. -/
def Obligations.ElapsesShowFramesInOrder : Prop :=
  ∀ (s : State) (e : CatEntry) (n k : Nat), s.cfg.wf = true → s.started = true → s.engineOk →
    s.cfg.cat[s.cur.toNat]? = some e → s.cursor = 0 → s.force = true →
    let r := (if s.ovr = 0 then e.rate else s.ovr).toNat
    k < r →
    ∃ t, afterUpdates (n * r + 1 + k) s = some t ∧
      t.disp.toNat = e.offset.toNat + n % e.length.toNat ∧
      t.cursor.toNat = (n + 1) % e.length.toNat ∧ t.acc.toNat = k ∧ t.rateEff.toNat = r ∧
      t.force = false ∧ t.ap = if k = 0 then 1 else 2

/-! ## Invariants -/

/-- Every step keeps the invariant of the block. -/
def Obligations.StepKeepsInvariant : Prop :=
  ∀ (s t : State), BlockInv s → step s = .next t → BlockInv t

/-- In a state that meets the invariant a step never stops in a fault of the model, and is refused
only when the host does what it is assumed never to do. -/
def Obligations.StepStopsOnlyOnHostBreach : Prop :=
  ∀ (s : State), BlockInv s →
    (∀ r, step s ≠ .fault r) ∧
    ∀ r, step s = .refused r →
      (∃ a v, nextChoice s = .hwrite a v ∧ s.cfg.dmemSize ≤ a.toNat) ∨
      (∃ a, nextChoice s = .hread a ∧ s.cfg.dmemSize ≤ a.toNat) ∨
      (∃ w, nextChoice s = .offer w ∧ s.cmd ≠ none)

/-- R135 to R137, R140: whatever the interleaving, SCAN_SPAN and OE_ON_MS, OUT is the concatenation of
the scan cycles of scanlines 0, 1, 2, 3, 0, ..., up to the bytes sent and the part of the cycle in
progress. -/
def Obligations.TraceIsConcatenationOfCycles : Prop :=
  ∀ (s t : State), s.cfg.wf = true → s.ph.toNat < 12 → s.si.toNat < s.cfg.scanSpan →
    s.traceOk → step s = .next t → t.traceOk

/-- R140, with R135 and R136: the steps of one cycle of the scanner alone, 4 * SCAN_SPAN + 8 of them,
append exactly the events of the cycle of S, the byte for offset k being the one at
SCAN_BASE + 4*S + k. -/
def Obligations.ScanCycleAppendsItsEvents : Prop :=
  ∀ (s : State) (cs : List Choice), s.cfg.wf = true → s.started = true → s.fNoBuf = false →
    s.bufValid = true → s.scanBase.toNat + 64 ≤ s.cfg.dmemSize → s.ph = 0 → s.si = 0 →
    let byteAt (k : Nat) := Memory.read s.dmem (s.scanBase.toNat + 4 * s.scanline.toNat + k)
    let n := 4 * s.cfg.scanSpan + 8
    Host.Core.run core n { s with choices := List.replicate n .scan ++ cs } =
      .next { s with
        choices := cs, scanline := s.scanline + 1, lat := false,
        oe := decide (s.cfg.oeOnMs = s.cfg.scanPeriodMs),
        rowA := (s.cfg.rowselMap.code s.scanline).1, rowB := (s.cfg.rowselMap.code s.scanline).2,
        out := s.out ++ cycleEvents s.cfg s.scanline byteAt }

/-- R122, R134 to R136, R140: the events of a cycle written out, for SCAN_SPAN 1 and 4 at full
brightness and for each form of SLEEP. -/
def Obligations.CycleEventsWrittenOut : Prop :=
  ∀ (c : Config) (S : BitVec 2) (b : Nat → Byte),
    let mid : List Event := [.oe false, .lat true, .delayUs c.latchHoldUs, .lat false,
      .row (c.rowselMap.code S).1 (c.rowselMap.code S).2, .oe true]
    (c.scanSpan = 1 → c.oeOnMs = c.scanPeriodMs →
      cycleEvents c S b = [.tx (b 48), .tx (b 32), .tx (b 16), .tx (b 0)] ++ mid ++
        [.sleepMs c.scanPeriodMs]) ∧
    (c.scanSpan = 4 → c.oeOnMs = c.scanPeriodMs →
      cycleEvents c S b =
        [.tx (b 48), .tx (b 32), .tx (b 16), .tx (b 0), .tx (b 49), .tx (b 33), .tx (b 17),
          .tx (b 1), .tx (b 50), .tx (b 34), .tx (b 18), .tx (b 2), .tx (b 51), .tx (b 35),
          .tx (b 19), .tx (b 3)] ++ mid ++ [.sleepMs c.scanPeriodMs]) ∧
    (c.scanSpan = 1 → c.oeOnMs = 0 → c.scanPeriodMs ≠ 0 →
      cycleEvents c S b = [.tx (b 48), .tx (b 32), .tx (b 16), .tx (b 0)] ++ mid ++
        [.oe false, .sleepMs c.scanPeriodMs]) ∧
    (c.scanSpan = 1 → 0 < c.oeOnMs.toNat → c.oeOnMs.toNat < c.scanPeriodMs.toNat →
      cycleEvents c S b = [.tx (b 48), .tx (b 32), .tx (b 16), .tx (b 0)] ++ mid ++
        [.sleepMs c.oeOnMs, .oe false, .sleepMs (c.scanPeriodMs - c.oeOnMs)])

/-- R138 (the informative panel model, log 20): after a cycle's events, every transmit delivered,
the panel is lit on the row-group of S with the bytes of the cycle, as many as the chain holds, the
first one sent deepest. -/
def Obligations.PanelShowsLatchedScanline : Prop :=
  ∀ (p : Panel) (vs : List Byte) (a b : Bool) (d : BitVec 8) (n : BitVec 16),
    vs.length = p.chain.length →
    (p.watch (vs.map .tx ++ [.oe false, .lat true, .delayUs d, .lat false, .row a b, .oe true,
      .sleepMs n])).lit = some ((a, b), vs)

/-- Whatever the interleaving, while the host leaves the engine's window alone, the frame buffer
is drawn as far as the sequencer has come. An elapse (AP = COPY, CI = 0) meets the premise whatever
DMEM holds. -/
def Obligations.StepKeepsFrameDrawn : Prop :=
  ∀ (s t : State), BlockInv s → s.frameOk → leavesWindow s.cfg (nextChoice s) → step s = .next t →
    t.frameOk

/-- R109: at the response to an UPDATE every icon's bits are as EN says, and every byte that hosts
no icon holds the displayed frame. -/
def Obligations.OverlayHoldsAtResponse : Prop :=
  ∀ (s t : State), BlockInv s → s.frameOk → s.ap = 2 → s.oi = 2 → nextChoice s = .anim →
    step s = .next t →
    t.rsp = some .ok ∧ (∀ x : BitVec 2, x ≠ 3 → t.iconDrawn x) ∧
      ∀ j, j < 64 → j ≠ s.cfg.poo.byte → j ≠ s.cfg.sick.byte → j ≠ s.cfg.sleep.byte →
        t.fbByte j = t.baseByte j
end

