-- ==== Sys2Proof/Laws/Config.lean ====
section
/-!
SUPPORT. What a well-formed configuration (spec/00_scope.md R5) and a valid catalog
(spec/40_anim_commands.md R81) give, each fact once.
-/

namespace Sys2Proof

/-- The parts of well-formedness that carry numbers. -/
theorem Config.wf_parts {c : Config} (h : c.wf = true) :
    c.sourceValues = true ∧ c.catSizeOk = true ∧ c.windowOk = true ∧ c.iconsOk = true ∧
      c.timingOk = true ∧ c.copyOrderOk = true := by
  simp only [Config.wf, Bool.and_eq_true] at h
  exact ⟨h.1.1.1.1.1.1, h.1.1.1.1.1.2, h.1.1.1.1.2, h.1.1.1.2, h.1.2, h.2⟩

/-- The values of R4 that an operation reads. -/
theorem Config.sourceValues_eq {c : Config} (h : c.sourceValues = true) :
    c.frameSize = 64 ∧ c.numOfFrames = 167 ∧ c.numScanlines = 4 ∧ c.groupStride = 16 ∧
      c.scanlineStride = 4 ∧ c.lengthMin = 1 ∧ c.lengthMax = 255 ∧ c.addrW = 16 := by
  simp only [Config.sourceValues, Bool.and_eq_true, decide_eq_true_eq] at h
  obtain ⟨⟨⟨⟨⟨⟨⟨⟨⟨⟨⟨⟨h1, h2⟩, h3⟩, h4⟩, h5⟩, h6⟩, h7⟩, h8⟩, -⟩, -⟩, -⟩, -⟩, -⟩ := h
  exact ⟨h1, h2, h3, h4, h5, h6, h7, h8⟩

theorem Config.wf_source {c : Config} (h : c.wf = true) : c.sourceValues = true :=
  (Config.wf_parts h).1

theorem Config.wf_frameSize {c : Config} (h : c.wf = true) : c.frameSize = 64 :=
  (Config.sourceValues_eq (Config.wf_source h)).1

theorem Config.wf_numOfFrames {c : Config} (h : c.wf = true) : c.numOfFrames = 167 :=
  (Config.sourceValues_eq (Config.wf_source h)).2.1

/-- SHEET_SIZE is 10688 (spec/20_memory.md R41). -/
theorem Config.sheetSize_eq {c : Config} (h : c.sourceValues = true) : c.sheetSize = 10688 := by
  obtain ⟨h1, h2, -⟩ := Config.sourceValues_eq h
  rw [Config.sheetSize, h1, h2]

theorem Config.wf_defaultAnim {c : Config} (h : c.wf = true) :
    c.defaultAnim.toNat < c.cat.length := by
  have h1 := (Config.wf_parts h).2.1
  simp only [Config.catSizeOk, Config.numAnims, Bool.and_eq_true, decide_eq_true_eq] at h1
  exact h1.2

theorem Config.wf_window {c : Config} (h : c.wf = true) :
    c.animFbBase + 64 ≤ c.dmemSize ∧ c.dmemSize ≤ 65536 := by
  have h1 := (Config.wf_parts h).2.2.1
  obtain ⟨h2, -, -, -, -, -, -, h3⟩ := Config.sourceValues_eq (Config.wf_source h)
  simpa only [Config.windowOk, Config.addrSpace, h2, h3, Bool.and_eq_true, decide_eq_true_eq,
    Nat.reducePow] using h1

theorem Config.wf_timing {c : Config} (h : c.wf = true) :
    (1 ≤ c.scanSpan ∧ c.scanSpan ≤ 4) ∧ c.oeOnMs ≤ c.scanPeriodMs ∧ 1 ≤ c.scanPeriodMs ∧
      1 ≤ c.latchHoldUs := by
  have h1 := (Config.wf_parts h).2.2.2.2.1
  simp only [Config.timingOk, Bool.and_eq_true, decide_eq_true_eq] at h1
  exact ⟨h1.1.1.1, h1.1.1.2, h1.1.2, h1.2⟩

theorem Config.wf_copyOrder {c : Config} (h : c.wf = true) :
    c.copyOrder.length = 64 ∧ c.copyOrder.Nodup := by
  have h1 := (Config.wf_parts h).2.2.2.2.2
  simp only [Config.copyOrderOk, Config.wf_frameSize h, Bool.and_eq_true,
    decide_eq_true_eq] at h1
  exact h1.1

theorem Config.wf_iconBytes {c : Config} (h : c.wf = true) :
    c.poo.byte < 64 ∧ c.sick.byte < 64 ∧ c.sleep.byte < 64 := by
  have h1 := (Config.wf_parts h).2.2.2.1
  simp only [Config.iconsOk, Icon.wf, Config.wf_frameSize h, Bool.and_eq_true,
    decide_eq_true_eq] at h1
  exact ⟨h1.1.1.1.1.1.1, h1.1.1.1.1.2.1, h1.1.1.1.2.1⟩

/-- Two icons on one byte have disjoint masks. -/
theorem Config.wf_masks {c : Config} (h : c.wf = true) :
    (c.poo.byte = c.sick.byte → c.poo.mask &&& c.sick.mask = 0) ∧
    (c.poo.byte = c.sleep.byte → c.poo.mask &&& c.sleep.mask = 0) ∧
    (c.sick.byte = c.sleep.byte → c.sick.mask &&& c.sleep.mask = 0) := by
  have h1 := (Config.wf_parts h).2.2.2.1
  simp only [Config.iconsOk, Icon.compatible, Bool.and_eq_true, Bool.or_eq_true,
    decide_eq_true_eq] at h1
  exact ⟨fun e => h1.1.1.2.resolve_left (· e), fun e => h1.1.2.resolve_left (· e),
    fun e => h1.2.resolve_left (· e)⟩

namespace Machine

/-- An entry of a valid catalog. -/
theorem catEntry_valid {c : Config} {i : BitVec 8} {e : CatEntry} (hs : c.sourceValues = true)
    (h : catalogValid c = true) (he : catEntry c i = some e) :
    1 ≤ e.length.toNat ∧ 1 ≤ e.rate.toNat ∧ e.offset.toNat + e.length.toNat ≤ 167 := by
  have h1 := List.all_eq_true.1 h e (List.mem_of_getElem? he)
  obtain ⟨-, h2, -, -, -, h3, -⟩ := Config.sourceValues_eq hs
  simp only [entryValid, h2, h3, Bool.and_eq_true, decide_eq_true_eq] at h1
  exact ⟨h1.1.1.1, h1.1.2, h1.2⟩

/-- The offsets of R122 with the strides of R4. -/
theorem scanOffset_eq {c : Config} (hs : c.sourceValues = true) (S : BitVec 2) (k : Nat) :
    scanOffset c S k = 4 * S.toNat + 16 * k := by
  obtain ⟨-, -, -, h1, h2, -⟩ := Config.sourceValues_eq hs
  rw [scanOffset, h1, h2]

/-- A byte of a legal frame lies in SHEET (spec/41_update_framecopy.md R110). -/
theorem sheetAddr_lt {s : State} {j : Nat} (hs : s.cfg.sourceValues = true)
    (hd : s.disp.toNat < 167) (hj : j < 64) : sheetAddr s j < s.cfg.sheetSize := by
  rw [Config.sheetSize_eq hs, sheetAddr, (Config.sourceValues_eq hs).1]
  omega

/-- The `mod 4` of R133 is the wrap of a 2-bit increment (spec/41_update_framecopy.md R110). -/
theorem nextScanline_eq {c : Config} (hs : c.sourceValues = true) (S : BitVec 2) :
    nextScanline c S = S + 1 := by
  rw [nextScanline, (Config.sourceValues_eq hs).2.2.1]
  revert S
  decide

/-- The icon codes 0, 1, 2 name an icon; code 3 names none. -/
theorem iconOf_eq_none {c : Config} {x : BitVec 2} : iconOf c x = none ↔ x = 3 := by
  match x with
  | 0 | 1 | 2 => exact ⟨fun h => (nomatch h), fun h => absurd h (by decide)⟩
  | 3 => exact ⟨fun _ => rfl, fun _ => rfl⟩

theorem iconOf_some {c : Config} {x : BitVec 2} (h : x ≠ 3) : ∃ i, iconOf c x = some i :=
  Option.ne_none_iff_exists'.1 fun hn => h (iconOf_eq_none.1 hn)

/-- Every icon of a well-formed configuration lies in the frame buffer. -/
theorem iconOf_byte_lt {c : Config} {x : BitVec 2} {i : Icon} (h : c.wf = true)
    (hi : iconOf c x = some i) : i.byte < 64 := by
  obtain ⟨h0, h1, h2⟩ := Config.wf_iconBytes h
  match x, hi with
  | 0, hi => cases hi; exact h0
  | 1, hi => cases hi; exact h1
  | 2, hi => cases hi; exact h2
  | 3, hi => cases hi

end Machine

end Sys2Proof
end

