-- ==== Sys2Proof/Laws/Encoding.lean ====
section
/-!
SUPPORT. The fields of a command word put together and taken apart.
-/

namespace Sys2Proof

/-- The bits of a command word: the operand below, the opcode above (R60). -/
theorem cmdWord_getLsbD (op : BitVec 4) (arg : BitVec 16) (i : Nat) :
    BitVec.getLsbD (cmdWord op arg) i = if i < 16 then arg.getLsbD i else op.getLsbD (i - 16) :=
  BitVec.getLsbD_append

@[simp] theorem cmdOp_cmdWord (op : BitVec 4) (arg : BitVec 16) : cmdOp (cmdWord op arg) = op := by
  apply BitVec.eq_of_getLsbD_eq
  intro i hi
  have h : ¬ (16 + i < 16) := by omega
  simp only [cmdOp, BitVec.getLsbD_extractLsb', hi, decide_true, Bool.true_and, cmdWord_getLsbD, h,
    if_false, Nat.add_sub_cancel_left]

@[simp] theorem cmdArg_cmdWord (op : BitVec 4) (arg : BitVec 16) :
    cmdArg (cmdWord op arg) = arg := by
  apply BitVec.eq_of_getLsbD_eq
  intro i hi
  simp only [cmdArg, BitVec.getLsbD_extractLsb', hi, decide_true, Bool.true_and, Nat.zero_add,
    cmdWord_getLsbD, if_true]

/-- A command word is its two fields. -/
theorem cmdWord_fields (w : CmdWord) : cmdWord (cmdOp w) (cmdArg w) = w := by
  apply BitVec.eq_of_getLsbD_eq
  intro i hi
  rw [cmdWord_getLsbD]
  split
  · rename_i h
    simp [cmdArg, h]
  · rename_i h
    have h4 : i - 16 < 4 := by omega
    have e : 16 + (i - 16) = i := by omega
    simp only [cmdOp, BitVec.getLsbD_extractLsb', h4, decide_true, Bool.true_and, e]

/-- The opcode of a word as a number (R60). -/
theorem cmdOp_toNat (w : CmdWord) : (cmdOp w).toNat = w.toNat / 65536 := by
  have h := w.isLt
  simp only [cmdOp, BitVec.extractLsb'_toNat, Nat.shiftRight_eq_div_pow]
  omega

/-- The operand field of a word as a number (R60). -/
theorem cmdArg_toNat (w : CmdWord) : (cmdArg w).toNat = w.toNat % 65536 := by
  simp [cmdArg, BitVec.extractLsb'_toNat]

/-- The word of an opcode and an operand, as a number (R60). -/
theorem cmdWord_toNat (op : BitVec 4) (arg : BitVec 16) :
    (cmdWord op arg).toNat = op.toNat * 65536 + arg.toNat := by
  have h1 := cmdOp_toNat (cmdWord op arg)
  have h2 := cmdArg_toNat (cmdWord op arg)
  rw [cmdOp_cmdWord] at h1
  rw [cmdArg_cmdWord] at h2
  omega

/-- Masking a command word masks its two fields. -/
theorem cmdWord_and (op op' : BitVec 4) (arg arg' : BitVec 16) :
    (cmdWord op arg).toNat &&& (cmdWord op' arg').toNat =
      (cmdWord (op &&& op') (arg &&& arg')).toNat := by
  rw [← BitVec.toNat_and]
  congr 1
  apply BitVec.eq_of_getLsbD_eq
  intro i hi
  rw [BitVec.getLsbD_and, cmdWord_getLsbD, cmdWord_getLsbD, cmdWord_getLsbD]
  split <;> simp

end Sys2Proof
end

