-- ==== Sys2Proof/Laws/Memory.lean ====
section
/-!
SUPPORT. The laws of memory: a write is read back, leaves every other byte alone, and keeps the
canonical form; equal readings follow from the canonical form alone.
-/

namespace Sys2Proof.Machine

open Sys2Proof

/-- The addresses a canonical memory lists are at least the bound. -/
theorem Memory.between_lower {m : List Host.Cell} {lo lo' hi : Nat}
    (h : Memory.between m lo hi = true) (hl : lo' ≤ lo) : Memory.between m lo' hi = true := by
  cases m with
  | nil => rfl
  | cons c m =>
    obtain ⟨b, w⟩ := c
    simp only [Memory.between, Bool.and_eq_true, decide_eq_true_eq] at h ⊢
    exact ⟨⟨⟨by omega, h.1.1.2⟩, h.1.2⟩, h.2⟩

/-- Below its bound a canonical memory reads blank. -/
theorem Memory.read_below {m : List Host.Cell} {lo hi a : Nat}
    (h : Memory.between m lo hi = true) (ha : a < lo) : Memory.read m a = Memory.blank := by
  induction m generalizing lo with
  | nil => rfl
  | cons c m ih =>
    obtain ⟨b, w⟩ := c
    simp only [Memory.between, Bool.and_eq_true, decide_eq_true_eq] at h
    have hb : a ≠ b := by omega
    simpa [Memory.read, hb] using ih h.2 (by omega)

theorem Memory.read_cons_of_between {m : List Host.Cell} {a hi : Nat} (v : Byte)
    (h : Memory.between m (a + 1) hi = true) (b : Nat) :
    Memory.read (Memory.cons a v m) b = if b = a then v else Memory.read m b := by
  unfold Memory.cons
  split
  · split
    · rename_i hv hb
      subst hb
      rw [Memory.read_below h (by omega), hv]
    · rfl
  · simp [Memory.read]

/-- A byte written is read back, and every other address reads as before. -/
theorem Memory.read_write {m : List Host.Cell} {lo hi : Nat} (a : Nat) (v : Byte)
    (h : Memory.between m lo hi = true) (b : Nat) :
    Memory.read (Memory.write m a v) b = if b = a then v else Memory.read m b := by
  induction m generalizing lo with
  | nil => exact Memory.read_cons_of_between (hi := 0) v rfl b
  | cons c m ih =>
    obtain ⟨k, w⟩ := c
    have hm := h
    simp only [Memory.between, Bool.and_eq_true, decide_eq_true_eq] at hm
    simp only [Memory.write]
    split
    · rename_i hk
      refine Memory.read_cons_of_between (hi := hi) v ?_ b
      simp only [Memory.between, Bool.and_eq_true, decide_eq_true_eq]
      exact ⟨⟨⟨by omega, hm.1.1.2⟩, hm.1.2⟩, hm.2⟩
    · split
      · rename_i hk
        subst hk
        rw [Memory.read_cons_of_between v hm.2 b]
        by_cases hb : b = a <;> simp [Memory.read, hb]
      · rename_i hk
        rw [Memory.read, ih hm.2]
        by_cases hb : b = k
        · subst hb
          have : b ≠ a := fun e => hk e.symm
          simp [Memory.read, this]
        · simp [Memory.read, hb]

theorem Memory.between_cons {m : List Host.Cell} {a lo hi : Nat} (v : Byte)
    (h : Memory.between m (a + 1) hi = true) (hlo : lo ≤ a) (ha : a < hi) :
    Memory.between (Memory.cons a v m) lo hi = true := by
  unfold Memory.cons
  split
  · exact Memory.between_lower h (by omega)
  · rename_i hv
    simp only [Memory.between, Bool.and_eq_true, decide_eq_true_eq]
    exact ⟨⟨⟨hlo, ha⟩, hv⟩, h⟩

/-- A write at an address of the memory keeps the canonical form. -/
theorem Memory.between_write {m : List Host.Cell} {lo hi : Nat} (a : Nat) (v : Byte)
    (h : Memory.between m lo hi = true) (hlo : lo ≤ a) (ha : a < hi) :
    Memory.between (Memory.write m a v) lo hi = true := by
  induction m generalizing lo with
  | nil => exact Memory.between_cons v rfl hlo ha
  | cons c m ih =>
    obtain ⟨k, w⟩ := c
    have hm := h
    simp only [Memory.between, Bool.and_eq_true, decide_eq_true_eq] at hm
    simp only [Memory.write]
    split
    · refine Memory.between_cons v ?_ hlo ha
      simp only [Memory.between, Bool.and_eq_true, decide_eq_true_eq]
      exact ⟨⟨⟨by omega, hm.1.1.2⟩, hm.1.2⟩, hm.2⟩
    · split
      · rename_i hk
        subst hk
        exact Memory.between_cons v hm.2 hlo ha
      · simp only [Memory.between, Bool.and_eq_true, decide_eq_true_eq]
        exact ⟨⟨⟨hm.1.1.1, hm.1.1.2⟩, hm.1.2⟩, ih hm.2 (by omega)⟩

/-- `Memory.wf` is kept by every write below the size. -/
theorem Memory.wf_write {m : List Host.Cell} {size a : Nat} (v : Byte)
    (h : Memory.wf size m = true) (ha : a < size) : Memory.wf size (Memory.write m a v) = true :=
  Memory.between_write a v h (Nat.zero_le a) ha

/-- Reading after a write into a canonical memory. -/
theorem Memory.wf_read_write {m : List Host.Cell} {size : Nat} (a : Nat) (v : Byte)
    (h : Memory.wf size m = true) (b : Nat) :
    Memory.read (Memory.write m a v) b = if b = a then v else Memory.read m b :=
  Memory.read_write a v h b

/-- The memory of `State.reset` is canonical. -/
theorem Memory.reset_wf : Memory.wf State.reset.cfg.dmemSize State.reset.dmem = true := rfl

/-- `dmemRead` answers exactly below DMEM_SIZE. -/
theorem dmemRead_eq_some {s : State} {a : Nat} {v : Byte} :
    dmemRead s a = some v ↔ a < s.cfg.dmemSize ∧ v = Memory.read s.dmem a := by
  unfold dmemRead
  split <;> simp_all [eq_comm]

theorem dmemRead_of_lt {s : State} {a : Nat} (h : a < s.cfg.dmemSize) :
    dmemRead s a = some (Memory.read s.dmem a) := by simp [dmemRead, h]

/-- `dmemWrite` answers exactly below DMEM_SIZE, and changes DMEM alone. -/
theorem dmemWrite_eq_some {s t : State} {a : Nat} {v : Byte} :
    dmemWrite s a v = some t ↔
      a < s.cfg.dmemSize ∧ t = { s with dmem := Memory.write s.dmem a v } := by
  unfold dmemWrite
  split <;> simp_all [eq_comm]

theorem dmemWrite_of_lt {s : State} {a : Nat} {v : Byte} (h : a < s.cfg.dmemSize) :
    dmemWrite s a v = some { s with dmem := Memory.write s.dmem a v } := by simp [dmemWrite, h]

theorem sheetRead_eq_some {c : Config} {a : Nat} {v : Byte} :
    sheetRead c a = some v ↔ a < c.sheetSize ∧ v = Memory.read c.sheet a := by
  unfold sheetRead
  split <;> simp_all [eq_comm]

theorem sheetRead_of_lt {c : Config} {a : Nat} (h : a < c.sheetSize) :
    sheetRead c a = some (Memory.read c.sheet a) := by simp [sheetRead, h]

end Sys2Proof.Machine
end

