-- ==== Sys2Proof/Laws/State.lean ====
section
/-!
SUPPORT. One lemma per field per update: what each shared update of State leaves in each field.
-/

namespace Sys2Proof.Machine

open Sys2Proof

/-! ## emit -/

@[simp] theorem emit_cfg (e : Event) (s : State) : (emit e s).cfg = s.cfg := rfl
@[simp] theorem emit_started (e : Event) (s : State) : (emit e s).started = s.started := rfl
@[simp] theorem emit_cur (e : Event) (s : State) : (emit e s).cur = s.cur := rfl
@[simp] theorem emit_cursor (e : Event) (s : State) : (emit e s).cursor = s.cursor := rfl
@[simp] theorem emit_acc (e : Event) (s : State) : (emit e s).acc = s.acc := rfl
@[simp] theorem emit_rateEff (e : Event) (s : State) : (emit e s).rateEff = s.rateEff := rfl
@[simp] theorem emit_ovr (e : Event) (s : State) : (emit e s).ovr = s.ovr := rfl
@[simp] theorem emit_force (e : Event) (s : State) : (emit e s).force = s.force := rfl
@[simp] theorem emit_en (e : Event) (s : State) : (emit e s).en = s.en := rfl
@[simp] theorem emit_disp (e : Event) (s : State) : (emit e s).disp = s.disp := rfl
@[simp] theorem emit_ap (e : Event) (s : State) : (emit e s).ap = s.ap := rfl
@[simp] theorem emit_ci (e : Event) (s : State) : (emit e s).ci = s.ci := rfl
@[simp] theorem emit_oi (e : Event) (s : State) : (emit e s).oi = s.oi := rfl
@[simp] theorem emit_scanline (e : Event) (s : State) : (emit e s).scanline = s.scanline := rfl
@[simp] theorem emit_ph (e : Event) (s : State) : (emit e s).ph = s.ph := rfl
@[simp] theorem emit_si (e : Event) (s : State) : (emit e s).si = s.si := rfl
@[simp] theorem emit_scanBase (e : Event) (s : State) : (emit e s).scanBase = s.scanBase := rfl
@[simp] theorem emit_bufValid (e : Event) (s : State) : (emit e s).bufValid = s.bufValid := rfl
@[simp] theorem emit_oe (e : Event) (s : State) : (emit e s).oe = s.oe := rfl
@[simp] theorem emit_lat (e : Event) (s : State) : (emit e s).lat = s.lat := rfl
@[simp] theorem emit_rowA (e : Event) (s : State) : (emit e s).rowA = s.rowA := rfl
@[simp] theorem emit_rowB (e : Event) (s : State) : (emit e s).rowB = s.rowB := rfl
@[simp] theorem emit_fConfig (e : Event) (s : State) : (emit e s).fConfig = s.fConfig := rfl
@[simp] theorem emit_fResource (e : Event) (s : State) : (emit e s).fResource = s.fResource := rfl
@[simp] theorem emit_fNoBuf (e : Event) (s : State) : (emit e s).fNoBuf = s.fNoBuf := rfl
@[simp] theorem emit_eRej (e : Event) (s : State) : (emit e s).eRej = s.eRej := rfl
@[simp] theorem emit_dmem (e : Event) (s : State) : (emit e s).dmem = s.dmem := rfl
@[simp] theorem emit_out (e : Event) (s : State) : (emit e s).out = s.out ++ [e] := rfl
@[simp] theorem emit_rsp (e : Event) (s : State) : (emit e s).rsp = s.rsp := rfl
@[simp] theorem emit_hRdata (e : Event) (s : State) : (emit e s).hRdata = s.hRdata := rfl
@[simp] theorem emit_cmd (e : Event) (s : State) : (emit e s).cmd = s.cmd := rfl
@[simp] theorem emit_platOk (e : Event) (s : State) : (emit e s).platOk = s.platOk := rfl
@[simp] theorem emit_txStatus (e : Event) (s : State) : (emit e s).txStatus = s.txStatus := rfl
@[simp] theorem emit_choices (e : Event) (s : State) : (emit e s).choices = s.choices := rfl
@[simp] theorem emit_draws (e : Event) (s : State) : (emit e s).draws = s.draws := rfl

/-! ## respond -/

@[simp] theorem respond_cfg (c : Response) (s : State) : (respond c s).cfg = s.cfg := rfl
@[simp] theorem respond_started (c : Response) (s : State) : (respond c s).started = s.started := rfl
@[simp] theorem respond_cur (c : Response) (s : State) : (respond c s).cur = s.cur := rfl
@[simp] theorem respond_cursor (c : Response) (s : State) : (respond c s).cursor = s.cursor := rfl
@[simp] theorem respond_acc (c : Response) (s : State) : (respond c s).acc = s.acc := rfl
@[simp] theorem respond_rateEff (c : Response) (s : State) : (respond c s).rateEff = s.rateEff := rfl
@[simp] theorem respond_ovr (c : Response) (s : State) : (respond c s).ovr = s.ovr := rfl
@[simp] theorem respond_force (c : Response) (s : State) : (respond c s).force = s.force := rfl
@[simp] theorem respond_en (c : Response) (s : State) : (respond c s).en = s.en := rfl
@[simp] theorem respond_disp (c : Response) (s : State) : (respond c s).disp = s.disp := rfl
@[simp] theorem respond_ap (c : Response) (s : State) : (respond c s).ap = s.ap := rfl
@[simp] theorem respond_ci (c : Response) (s : State) : (respond c s).ci = s.ci := rfl
@[simp] theorem respond_oi (c : Response) (s : State) : (respond c s).oi = s.oi := rfl
@[simp] theorem respond_scanline (c : Response) (s : State) : (respond c s).scanline = s.scanline := rfl
@[simp] theorem respond_ph (c : Response) (s : State) : (respond c s).ph = s.ph := rfl
@[simp] theorem respond_si (c : Response) (s : State) : (respond c s).si = s.si := rfl
@[simp] theorem respond_scanBase (c : Response) (s : State) : (respond c s).scanBase = s.scanBase := rfl
@[simp] theorem respond_bufValid (c : Response) (s : State) : (respond c s).bufValid = s.bufValid := rfl
@[simp] theorem respond_oe (c : Response) (s : State) : (respond c s).oe = s.oe := rfl
@[simp] theorem respond_lat (c : Response) (s : State) : (respond c s).lat = s.lat := rfl
@[simp] theorem respond_rowA (c : Response) (s : State) : (respond c s).rowA = s.rowA := rfl
@[simp] theorem respond_rowB (c : Response) (s : State) : (respond c s).rowB = s.rowB := rfl
@[simp] theorem respond_fConfig (c : Response) (s : State) : (respond c s).fConfig = s.fConfig := rfl
@[simp] theorem respond_fResource (c : Response) (s : State) : (respond c s).fResource = s.fResource := rfl
@[simp] theorem respond_fNoBuf (c : Response) (s : State) : (respond c s).fNoBuf = s.fNoBuf := rfl
@[simp] theorem respond_eRej (c : Response) (s : State) : (respond c s).eRej = s.eRej := rfl
@[simp] theorem respond_dmem (c : Response) (s : State) : (respond c s).dmem = s.dmem := rfl
@[simp] theorem respond_out (c : Response) (s : State) : (respond c s).out = s.out := rfl
@[simp] theorem respond_rsp (c : Response) (s : State) : (respond c s).rsp = some c := rfl
@[simp] theorem respond_hRdata (c : Response) (s : State) : (respond c s).hRdata = s.hRdata := rfl
@[simp] theorem respond_cmd (c : Response) (s : State) : (respond c s).cmd = s.cmd := rfl
@[simp] theorem respond_platOk (c : Response) (s : State) : (respond c s).platOk = s.platOk := rfl
@[simp] theorem respond_txStatus (c : Response) (s : State) : (respond c s).txStatus = s.txStatus := rfl
@[simp] theorem respond_choices (c : Response) (s : State) : (respond c s).choices = s.choices := rfl
@[simp] theorem respond_draws (c : Response) (s : State) : (respond c s).draws = s.draws := rfl

/-! ## reject -/

@[simp] theorem reject_cfg (s : State) : (reject s).cfg = s.cfg := rfl
@[simp] theorem reject_started (s : State) : (reject s).started = s.started := rfl
@[simp] theorem reject_cur (s : State) : (reject s).cur = s.cur := rfl
@[simp] theorem reject_cursor (s : State) : (reject s).cursor = s.cursor := rfl
@[simp] theorem reject_acc (s : State) : (reject s).acc = s.acc := rfl
@[simp] theorem reject_rateEff (s : State) : (reject s).rateEff = s.rateEff := rfl
@[simp] theorem reject_ovr (s : State) : (reject s).ovr = s.ovr := rfl
@[simp] theorem reject_force (s : State) : (reject s).force = s.force := rfl
@[simp] theorem reject_en (s : State) : (reject s).en = s.en := rfl
@[simp] theorem reject_disp (s : State) : (reject s).disp = s.disp := rfl
@[simp] theorem reject_ap (s : State) : (reject s).ap = s.ap := rfl
@[simp] theorem reject_ci (s : State) : (reject s).ci = s.ci := rfl
@[simp] theorem reject_oi (s : State) : (reject s).oi = s.oi := rfl
@[simp] theorem reject_scanline (s : State) : (reject s).scanline = s.scanline := rfl
@[simp] theorem reject_ph (s : State) : (reject s).ph = s.ph := rfl
@[simp] theorem reject_si (s : State) : (reject s).si = s.si := rfl
@[simp] theorem reject_scanBase (s : State) : (reject s).scanBase = s.scanBase := rfl
@[simp] theorem reject_bufValid (s : State) : (reject s).bufValid = s.bufValid := rfl
@[simp] theorem reject_oe (s : State) : (reject s).oe = s.oe := rfl
@[simp] theorem reject_lat (s : State) : (reject s).lat = s.lat := rfl
@[simp] theorem reject_rowA (s : State) : (reject s).rowA = s.rowA := rfl
@[simp] theorem reject_rowB (s : State) : (reject s).rowB = s.rowB := rfl
@[simp] theorem reject_fConfig (s : State) : (reject s).fConfig = s.fConfig := rfl
@[simp] theorem reject_fResource (s : State) : (reject s).fResource = s.fResource := rfl
@[simp] theorem reject_fNoBuf (s : State) : (reject s).fNoBuf = s.fNoBuf := rfl
@[simp] theorem reject_eRej (s : State) : (reject s).eRej = true := rfl
@[simp] theorem reject_dmem (s : State) : (reject s).dmem = s.dmem := rfl
@[simp] theorem reject_out (s : State) : (reject s).out = s.out := rfl
@[simp] theorem reject_rsp (s : State) : (reject s).rsp = some .rejected := rfl
@[simp] theorem reject_hRdata (s : State) : (reject s).hRdata = s.hRdata := rfl
@[simp] theorem reject_cmd (s : State) : (reject s).cmd = s.cmd := rfl
@[simp] theorem reject_platOk (s : State) : (reject s).platOk = s.platOk := rfl
@[simp] theorem reject_txStatus (s : State) : (reject s).txStatus = s.txStatus := rfl
@[simp] theorem reject_choices (s : State) : (reject s).choices = s.choices := rfl
@[simp] theorem reject_draws (s : State) : (reject s).draws = s.draws := rfl

/-! ## gotoPhase -/

@[simp] theorem gotoPhase_cfg (n : BitVec 4) (s : State) : (gotoPhase n s).cfg = s.cfg := rfl
@[simp] theorem gotoPhase_started (n : BitVec 4) (s : State) : (gotoPhase n s).started = s.started := rfl
@[simp] theorem gotoPhase_cur (n : BitVec 4) (s : State) : (gotoPhase n s).cur = s.cur := rfl
@[simp] theorem gotoPhase_cursor (n : BitVec 4) (s : State) : (gotoPhase n s).cursor = s.cursor := rfl
@[simp] theorem gotoPhase_acc (n : BitVec 4) (s : State) : (gotoPhase n s).acc = s.acc := rfl
@[simp] theorem gotoPhase_rateEff (n : BitVec 4) (s : State) : (gotoPhase n s).rateEff = s.rateEff := rfl
@[simp] theorem gotoPhase_ovr (n : BitVec 4) (s : State) : (gotoPhase n s).ovr = s.ovr := rfl
@[simp] theorem gotoPhase_force (n : BitVec 4) (s : State) : (gotoPhase n s).force = s.force := rfl
@[simp] theorem gotoPhase_en (n : BitVec 4) (s : State) : (gotoPhase n s).en = s.en := rfl
@[simp] theorem gotoPhase_disp (n : BitVec 4) (s : State) : (gotoPhase n s).disp = s.disp := rfl
@[simp] theorem gotoPhase_ap (n : BitVec 4) (s : State) : (gotoPhase n s).ap = s.ap := rfl
@[simp] theorem gotoPhase_ci (n : BitVec 4) (s : State) : (gotoPhase n s).ci = s.ci := rfl
@[simp] theorem gotoPhase_oi (n : BitVec 4) (s : State) : (gotoPhase n s).oi = s.oi := rfl
@[simp] theorem gotoPhase_scanline (n : BitVec 4) (s : State) : (gotoPhase n s).scanline = s.scanline := rfl
@[simp] theorem gotoPhase_ph (n : BitVec 4) (s : State) : (gotoPhase n s).ph = n := rfl
@[simp] theorem gotoPhase_si (n : BitVec 4) (s : State) : (gotoPhase n s).si = s.si := rfl
@[simp] theorem gotoPhase_scanBase (n : BitVec 4) (s : State) : (gotoPhase n s).scanBase = s.scanBase := rfl
@[simp] theorem gotoPhase_bufValid (n : BitVec 4) (s : State) : (gotoPhase n s).bufValid = s.bufValid := rfl
@[simp] theorem gotoPhase_oe (n : BitVec 4) (s : State) : (gotoPhase n s).oe = s.oe := rfl
@[simp] theorem gotoPhase_lat (n : BitVec 4) (s : State) : (gotoPhase n s).lat = s.lat := rfl
@[simp] theorem gotoPhase_rowA (n : BitVec 4) (s : State) : (gotoPhase n s).rowA = s.rowA := rfl
@[simp] theorem gotoPhase_rowB (n : BitVec 4) (s : State) : (gotoPhase n s).rowB = s.rowB := rfl
@[simp] theorem gotoPhase_fConfig (n : BitVec 4) (s : State) : (gotoPhase n s).fConfig = s.fConfig := rfl
@[simp] theorem gotoPhase_fResource (n : BitVec 4) (s : State) : (gotoPhase n s).fResource = s.fResource := rfl
@[simp] theorem gotoPhase_fNoBuf (n : BitVec 4) (s : State) : (gotoPhase n s).fNoBuf = s.fNoBuf := rfl
@[simp] theorem gotoPhase_eRej (n : BitVec 4) (s : State) : (gotoPhase n s).eRej = s.eRej := rfl
@[simp] theorem gotoPhase_dmem (n : BitVec 4) (s : State) : (gotoPhase n s).dmem = s.dmem := rfl
@[simp] theorem gotoPhase_out (n : BitVec 4) (s : State) : (gotoPhase n s).out = s.out := rfl
@[simp] theorem gotoPhase_rsp (n : BitVec 4) (s : State) : (gotoPhase n s).rsp = s.rsp := rfl
@[simp] theorem gotoPhase_hRdata (n : BitVec 4) (s : State) : (gotoPhase n s).hRdata = s.hRdata := rfl
@[simp] theorem gotoPhase_cmd (n : BitVec 4) (s : State) : (gotoPhase n s).cmd = s.cmd := rfl
@[simp] theorem gotoPhase_platOk (n : BitVec 4) (s : State) : (gotoPhase n s).platOk = s.platOk := rfl
@[simp] theorem gotoPhase_txStatus (n : BitVec 4) (s : State) : (gotoPhase n s).txStatus = s.txStatus := rfl
@[simp] theorem gotoPhase_choices (n : BitVec 4) (s : State) : (gotoPhase n s).choices = s.choices := rfl
@[simp] theorem gotoPhase_draws (n : BitVec 4) (s : State) : (gotoPhase n s).draws = s.draws := rfl

/-! ## driveOe -/

@[simp] theorem driveOe_cfg (b : Bool) (s : State) : (driveOe b s).cfg = s.cfg := rfl
@[simp] theorem driveOe_started (b : Bool) (s : State) : (driveOe b s).started = s.started := rfl
@[simp] theorem driveOe_cur (b : Bool) (s : State) : (driveOe b s).cur = s.cur := rfl
@[simp] theorem driveOe_cursor (b : Bool) (s : State) : (driveOe b s).cursor = s.cursor := rfl
@[simp] theorem driveOe_acc (b : Bool) (s : State) : (driveOe b s).acc = s.acc := rfl
@[simp] theorem driveOe_rateEff (b : Bool) (s : State) : (driveOe b s).rateEff = s.rateEff := rfl
@[simp] theorem driveOe_ovr (b : Bool) (s : State) : (driveOe b s).ovr = s.ovr := rfl
@[simp] theorem driveOe_force (b : Bool) (s : State) : (driveOe b s).force = s.force := rfl
@[simp] theorem driveOe_en (b : Bool) (s : State) : (driveOe b s).en = s.en := rfl
@[simp] theorem driveOe_disp (b : Bool) (s : State) : (driveOe b s).disp = s.disp := rfl
@[simp] theorem driveOe_ap (b : Bool) (s : State) : (driveOe b s).ap = s.ap := rfl
@[simp] theorem driveOe_ci (b : Bool) (s : State) : (driveOe b s).ci = s.ci := rfl
@[simp] theorem driveOe_oi (b : Bool) (s : State) : (driveOe b s).oi = s.oi := rfl
@[simp] theorem driveOe_scanline (b : Bool) (s : State) : (driveOe b s).scanline = s.scanline := rfl
@[simp] theorem driveOe_ph (b : Bool) (s : State) : (driveOe b s).ph = s.ph := rfl
@[simp] theorem driveOe_si (b : Bool) (s : State) : (driveOe b s).si = s.si := rfl
@[simp] theorem driveOe_scanBase (b : Bool) (s : State) : (driveOe b s).scanBase = s.scanBase := rfl
@[simp] theorem driveOe_bufValid (b : Bool) (s : State) : (driveOe b s).bufValid = s.bufValid := rfl
@[simp] theorem driveOe_oe (b : Bool) (s : State) : (driveOe b s).oe = b := rfl
@[simp] theorem driveOe_lat (b : Bool) (s : State) : (driveOe b s).lat = s.lat := rfl
@[simp] theorem driveOe_rowA (b : Bool) (s : State) : (driveOe b s).rowA = s.rowA := rfl
@[simp] theorem driveOe_rowB (b : Bool) (s : State) : (driveOe b s).rowB = s.rowB := rfl
@[simp] theorem driveOe_fConfig (b : Bool) (s : State) : (driveOe b s).fConfig = s.fConfig := rfl
@[simp] theorem driveOe_fResource (b : Bool) (s : State) : (driveOe b s).fResource = s.fResource := rfl
@[simp] theorem driveOe_fNoBuf (b : Bool) (s : State) : (driveOe b s).fNoBuf = s.fNoBuf := rfl
@[simp] theorem driveOe_eRej (b : Bool) (s : State) : (driveOe b s).eRej = s.eRej := rfl
@[simp] theorem driveOe_dmem (b : Bool) (s : State) : (driveOe b s).dmem = s.dmem := rfl
@[simp] theorem driveOe_out (b : Bool) (s : State) : (driveOe b s).out = s.out ++ [.oe b] := rfl
@[simp] theorem driveOe_rsp (b : Bool) (s : State) : (driveOe b s).rsp = s.rsp := rfl
@[simp] theorem driveOe_hRdata (b : Bool) (s : State) : (driveOe b s).hRdata = s.hRdata := rfl
@[simp] theorem driveOe_cmd (b : Bool) (s : State) : (driveOe b s).cmd = s.cmd := rfl
@[simp] theorem driveOe_platOk (b : Bool) (s : State) : (driveOe b s).platOk = s.platOk := rfl
@[simp] theorem driveOe_txStatus (b : Bool) (s : State) : (driveOe b s).txStatus = s.txStatus := rfl
@[simp] theorem driveOe_choices (b : Bool) (s : State) : (driveOe b s).choices = s.choices := rfl
@[simp] theorem driveOe_draws (b : Bool) (s : State) : (driveOe b s).draws = s.draws := rfl

/-! ## driveLat -/

@[simp] theorem driveLat_cfg (b : Bool) (s : State) : (driveLat b s).cfg = s.cfg := rfl
@[simp] theorem driveLat_started (b : Bool) (s : State) : (driveLat b s).started = s.started := rfl
@[simp] theorem driveLat_cur (b : Bool) (s : State) : (driveLat b s).cur = s.cur := rfl
@[simp] theorem driveLat_cursor (b : Bool) (s : State) : (driveLat b s).cursor = s.cursor := rfl
@[simp] theorem driveLat_acc (b : Bool) (s : State) : (driveLat b s).acc = s.acc := rfl
@[simp] theorem driveLat_rateEff (b : Bool) (s : State) : (driveLat b s).rateEff = s.rateEff := rfl
@[simp] theorem driveLat_ovr (b : Bool) (s : State) : (driveLat b s).ovr = s.ovr := rfl
@[simp] theorem driveLat_force (b : Bool) (s : State) : (driveLat b s).force = s.force := rfl
@[simp] theorem driveLat_en (b : Bool) (s : State) : (driveLat b s).en = s.en := rfl
@[simp] theorem driveLat_disp (b : Bool) (s : State) : (driveLat b s).disp = s.disp := rfl
@[simp] theorem driveLat_ap (b : Bool) (s : State) : (driveLat b s).ap = s.ap := rfl
@[simp] theorem driveLat_ci (b : Bool) (s : State) : (driveLat b s).ci = s.ci := rfl
@[simp] theorem driveLat_oi (b : Bool) (s : State) : (driveLat b s).oi = s.oi := rfl
@[simp] theorem driveLat_scanline (b : Bool) (s : State) : (driveLat b s).scanline = s.scanline := rfl
@[simp] theorem driveLat_ph (b : Bool) (s : State) : (driveLat b s).ph = s.ph := rfl
@[simp] theorem driveLat_si (b : Bool) (s : State) : (driveLat b s).si = s.si := rfl
@[simp] theorem driveLat_scanBase (b : Bool) (s : State) : (driveLat b s).scanBase = s.scanBase := rfl
@[simp] theorem driveLat_bufValid (b : Bool) (s : State) : (driveLat b s).bufValid = s.bufValid := rfl
@[simp] theorem driveLat_oe (b : Bool) (s : State) : (driveLat b s).oe = s.oe := rfl
@[simp] theorem driveLat_lat (b : Bool) (s : State) : (driveLat b s).lat = b := rfl
@[simp] theorem driveLat_rowA (b : Bool) (s : State) : (driveLat b s).rowA = s.rowA := rfl
@[simp] theorem driveLat_rowB (b : Bool) (s : State) : (driveLat b s).rowB = s.rowB := rfl
@[simp] theorem driveLat_fConfig (b : Bool) (s : State) : (driveLat b s).fConfig = s.fConfig := rfl
@[simp] theorem driveLat_fResource (b : Bool) (s : State) : (driveLat b s).fResource = s.fResource := rfl
@[simp] theorem driveLat_fNoBuf (b : Bool) (s : State) : (driveLat b s).fNoBuf = s.fNoBuf := rfl
@[simp] theorem driveLat_eRej (b : Bool) (s : State) : (driveLat b s).eRej = s.eRej := rfl
@[simp] theorem driveLat_dmem (b : Bool) (s : State) : (driveLat b s).dmem = s.dmem := rfl
@[simp] theorem driveLat_out (b : Bool) (s : State) : (driveLat b s).out = s.out ++ [.lat b] := rfl
@[simp] theorem driveLat_rsp (b : Bool) (s : State) : (driveLat b s).rsp = s.rsp := rfl
@[simp] theorem driveLat_hRdata (b : Bool) (s : State) : (driveLat b s).hRdata = s.hRdata := rfl
@[simp] theorem driveLat_cmd (b : Bool) (s : State) : (driveLat b s).cmd = s.cmd := rfl
@[simp] theorem driveLat_platOk (b : Bool) (s : State) : (driveLat b s).platOk = s.platOk := rfl
@[simp] theorem driveLat_txStatus (b : Bool) (s : State) : (driveLat b s).txStatus = s.txStatus := rfl
@[simp] theorem driveLat_choices (b : Bool) (s : State) : (driveLat b s).choices = s.choices := rfl
@[simp] theorem driveLat_draws (b : Bool) (s : State) : (driveLat b s).draws = s.draws := rfl

/-! ## driveRow -/

@[simp] theorem driveRow_cfg (c : Bool × Bool) (s : State) : (driveRow c s).cfg = s.cfg := rfl
@[simp] theorem driveRow_started (c : Bool × Bool) (s : State) : (driveRow c s).started = s.started := rfl
@[simp] theorem driveRow_cur (c : Bool × Bool) (s : State) : (driveRow c s).cur = s.cur := rfl
@[simp] theorem driveRow_cursor (c : Bool × Bool) (s : State) : (driveRow c s).cursor = s.cursor := rfl
@[simp] theorem driveRow_acc (c : Bool × Bool) (s : State) : (driveRow c s).acc = s.acc := rfl
@[simp] theorem driveRow_rateEff (c : Bool × Bool) (s : State) : (driveRow c s).rateEff = s.rateEff := rfl
@[simp] theorem driveRow_ovr (c : Bool × Bool) (s : State) : (driveRow c s).ovr = s.ovr := rfl
@[simp] theorem driveRow_force (c : Bool × Bool) (s : State) : (driveRow c s).force = s.force := rfl
@[simp] theorem driveRow_en (c : Bool × Bool) (s : State) : (driveRow c s).en = s.en := rfl
@[simp] theorem driveRow_disp (c : Bool × Bool) (s : State) : (driveRow c s).disp = s.disp := rfl
@[simp] theorem driveRow_ap (c : Bool × Bool) (s : State) : (driveRow c s).ap = s.ap := rfl
@[simp] theorem driveRow_ci (c : Bool × Bool) (s : State) : (driveRow c s).ci = s.ci := rfl
@[simp] theorem driveRow_oi (c : Bool × Bool) (s : State) : (driveRow c s).oi = s.oi := rfl
@[simp] theorem driveRow_scanline (c : Bool × Bool) (s : State) : (driveRow c s).scanline = s.scanline := rfl
@[simp] theorem driveRow_ph (c : Bool × Bool) (s : State) : (driveRow c s).ph = s.ph := rfl
@[simp] theorem driveRow_si (c : Bool × Bool) (s : State) : (driveRow c s).si = s.si := rfl
@[simp] theorem driveRow_scanBase (c : Bool × Bool) (s : State) : (driveRow c s).scanBase = s.scanBase := rfl
@[simp] theorem driveRow_bufValid (c : Bool × Bool) (s : State) : (driveRow c s).bufValid = s.bufValid := rfl
@[simp] theorem driveRow_oe (c : Bool × Bool) (s : State) : (driveRow c s).oe = s.oe := rfl
@[simp] theorem driveRow_lat (c : Bool × Bool) (s : State) : (driveRow c s).lat = s.lat := rfl
@[simp] theorem driveRow_rowA (c : Bool × Bool) (s : State) : (driveRow c s).rowA = c.1 := rfl
@[simp] theorem driveRow_rowB (c : Bool × Bool) (s : State) : (driveRow c s).rowB = c.2 := rfl
@[simp] theorem driveRow_fConfig (c : Bool × Bool) (s : State) : (driveRow c s).fConfig = s.fConfig := rfl
@[simp] theorem driveRow_fResource (c : Bool × Bool) (s : State) : (driveRow c s).fResource = s.fResource := rfl
@[simp] theorem driveRow_fNoBuf (c : Bool × Bool) (s : State) : (driveRow c s).fNoBuf = s.fNoBuf := rfl
@[simp] theorem driveRow_eRej (c : Bool × Bool) (s : State) : (driveRow c s).eRej = s.eRej := rfl
@[simp] theorem driveRow_dmem (c : Bool × Bool) (s : State) : (driveRow c s).dmem = s.dmem := rfl
@[simp] theorem driveRow_out (c : Bool × Bool) (s : State) : (driveRow c s).out = s.out ++ [.row c.1 c.2] := rfl
@[simp] theorem driveRow_rsp (c : Bool × Bool) (s : State) : (driveRow c s).rsp = s.rsp := rfl
@[simp] theorem driveRow_hRdata (c : Bool × Bool) (s : State) : (driveRow c s).hRdata = s.hRdata := rfl
@[simp] theorem driveRow_cmd (c : Bool × Bool) (s : State) : (driveRow c s).cmd = s.cmd := rfl
@[simp] theorem driveRow_platOk (c : Bool × Bool) (s : State) : (driveRow c s).platOk = s.platOk := rfl
@[simp] theorem driveRow_txStatus (c : Bool × Bool) (s : State) : (driveRow c s).txStatus = s.txStatus := rfl
@[simp] theorem driveRow_choices (c : Bool × Bool) (s : State) : (driveRow c s).choices = s.choices := rfl
@[simp] theorem driveRow_draws (c : Bool × Bool) (s : State) : (driveRow c s).draws = s.draws := rfl

/-! ## switchTo -/

@[simp] theorem switchTo_cfg (id : BitVec 8) (s : State) : (switchTo id s).cfg = s.cfg := rfl
@[simp] theorem switchTo_started (id : BitVec 8) (s : State) : (switchTo id s).started = s.started := rfl
@[simp] theorem switchTo_cur (id : BitVec 8) (s : State) : (switchTo id s).cur = id := rfl
@[simp] theorem switchTo_cursor (id : BitVec 8) (s : State) : (switchTo id s).cursor = 0 := rfl
@[simp] theorem switchTo_acc (id : BitVec 8) (s : State) : (switchTo id s).acc = s.acc := rfl
@[simp] theorem switchTo_rateEff (id : BitVec 8) (s : State) : (switchTo id s).rateEff = s.rateEff := rfl
@[simp] theorem switchTo_ovr (id : BitVec 8) (s : State) : (switchTo id s).ovr = s.ovr := rfl
@[simp] theorem switchTo_force (id : BitVec 8) (s : State) : (switchTo id s).force = true := rfl
@[simp] theorem switchTo_en (id : BitVec 8) (s : State) : (switchTo id s).en = s.en := rfl
@[simp] theorem switchTo_disp (id : BitVec 8) (s : State) : (switchTo id s).disp = s.disp := rfl
@[simp] theorem switchTo_ap (id : BitVec 8) (s : State) : (switchTo id s).ap = s.ap := rfl
@[simp] theorem switchTo_ci (id : BitVec 8) (s : State) : (switchTo id s).ci = s.ci := rfl
@[simp] theorem switchTo_oi (id : BitVec 8) (s : State) : (switchTo id s).oi = s.oi := rfl
@[simp] theorem switchTo_scanline (id : BitVec 8) (s : State) : (switchTo id s).scanline = s.scanline := rfl
@[simp] theorem switchTo_ph (id : BitVec 8) (s : State) : (switchTo id s).ph = s.ph := rfl
@[simp] theorem switchTo_si (id : BitVec 8) (s : State) : (switchTo id s).si = s.si := rfl
@[simp] theorem switchTo_scanBase (id : BitVec 8) (s : State) : (switchTo id s).scanBase = s.scanBase := rfl
@[simp] theorem switchTo_bufValid (id : BitVec 8) (s : State) : (switchTo id s).bufValid = s.bufValid := rfl
@[simp] theorem switchTo_oe (id : BitVec 8) (s : State) : (switchTo id s).oe = s.oe := rfl
@[simp] theorem switchTo_lat (id : BitVec 8) (s : State) : (switchTo id s).lat = s.lat := rfl
@[simp] theorem switchTo_rowA (id : BitVec 8) (s : State) : (switchTo id s).rowA = s.rowA := rfl
@[simp] theorem switchTo_rowB (id : BitVec 8) (s : State) : (switchTo id s).rowB = s.rowB := rfl
@[simp] theorem switchTo_fConfig (id : BitVec 8) (s : State) : (switchTo id s).fConfig = s.fConfig := rfl
@[simp] theorem switchTo_fResource (id : BitVec 8) (s : State) : (switchTo id s).fResource = s.fResource := rfl
@[simp] theorem switchTo_fNoBuf (id : BitVec 8) (s : State) : (switchTo id s).fNoBuf = s.fNoBuf := rfl
@[simp] theorem switchTo_eRej (id : BitVec 8) (s : State) : (switchTo id s).eRej = s.eRej := rfl
@[simp] theorem switchTo_dmem (id : BitVec 8) (s : State) : (switchTo id s).dmem = s.dmem := rfl
@[simp] theorem switchTo_out (id : BitVec 8) (s : State) : (switchTo id s).out = s.out := rfl
@[simp] theorem switchTo_rsp (id : BitVec 8) (s : State) : (switchTo id s).rsp = s.rsp := rfl
@[simp] theorem switchTo_hRdata (id : BitVec 8) (s : State) : (switchTo id s).hRdata = s.hRdata := rfl
@[simp] theorem switchTo_cmd (id : BitVec 8) (s : State) : (switchTo id s).cmd = s.cmd := rfl
@[simp] theorem switchTo_platOk (id : BitVec 8) (s : State) : (switchTo id s).platOk = s.platOk := rfl
@[simp] theorem switchTo_txStatus (id : BitVec 8) (s : State) : (switchTo id s).txStatus = s.txStatus := rfl
@[simp] theorem switchTo_choices (id : BitVec 8) (s : State) : (switchTo id s).choices = s.choices := rfl
@[simp] theorem switchTo_draws (id : BitVec 8) (s : State) : (switchTo id s).draws = s.draws := rfl

/-! ## startBlock -/

@[simp] theorem startBlock_cfg (e : CatEntry) (s : State) : (startBlock e s).cfg = s.cfg := rfl
@[simp] theorem startBlock_started (e : CatEntry) (s : State) : (startBlock e s).started = true := rfl
@[simp] theorem startBlock_cur (e : CatEntry) (s : State) : (startBlock e s).cur = s.cfg.defaultAnim := rfl
@[simp] theorem startBlock_cursor (e : CatEntry) (s : State) : (startBlock e s).cursor = 0 := rfl
@[simp] theorem startBlock_acc (e : CatEntry) (s : State) : (startBlock e s).acc = 0 := rfl
@[simp] theorem startBlock_rateEff (e : CatEntry) (s : State) : (startBlock e s).rateEff = e.rate := rfl
@[simp] theorem startBlock_ovr (e : CatEntry) (s : State) : (startBlock e s).ovr = s.ovr := rfl
@[simp] theorem startBlock_force (e : CatEntry) (s : State) : (startBlock e s).force = true := rfl
@[simp] theorem startBlock_en (e : CatEntry) (s : State) : (startBlock e s).en = s.en := rfl
@[simp] theorem startBlock_disp (e : CatEntry) (s : State) : (startBlock e s).disp = s.disp := rfl
@[simp] theorem startBlock_ap (e : CatEntry) (s : State) : (startBlock e s).ap = s.ap := rfl
@[simp] theorem startBlock_ci (e : CatEntry) (s : State) : (startBlock e s).ci = s.ci := rfl
@[simp] theorem startBlock_oi (e : CatEntry) (s : State) : (startBlock e s).oi = s.oi := rfl
@[simp] theorem startBlock_scanline (e : CatEntry) (s : State) : (startBlock e s).scanline = s.scanline := rfl
@[simp] theorem startBlock_ph (e : CatEntry) (s : State) : (startBlock e s).ph = s.ph := rfl
@[simp] theorem startBlock_si (e : CatEntry) (s : State) : (startBlock e s).si = s.si := rfl
@[simp] theorem startBlock_scanBase (e : CatEntry) (s : State) : (startBlock e s).scanBase = s.scanBase := rfl
@[simp] theorem startBlock_bufValid (e : CatEntry) (s : State) : (startBlock e s).bufValid = s.bufValid := rfl
@[simp] theorem startBlock_oe (e : CatEntry) (s : State) : (startBlock e s).oe = s.oe := rfl
@[simp] theorem startBlock_lat (e : CatEntry) (s : State) : (startBlock e s).lat = s.lat := rfl
@[simp] theorem startBlock_rowA (e : CatEntry) (s : State) : (startBlock e s).rowA = s.rowA := rfl
@[simp] theorem startBlock_rowB (e : CatEntry) (s : State) : (startBlock e s).rowB = s.rowB := rfl
@[simp] theorem startBlock_fConfig (e : CatEntry) (s : State) : (startBlock e s).fConfig = s.fConfig := rfl
@[simp] theorem startBlock_fResource (e : CatEntry) (s : State) : (startBlock e s).fResource = s.fResource := rfl
@[simp] theorem startBlock_fNoBuf (e : CatEntry) (s : State) : (startBlock e s).fNoBuf = s.fNoBuf := rfl
@[simp] theorem startBlock_eRej (e : CatEntry) (s : State) : (startBlock e s).eRej = s.eRej := rfl
@[simp] theorem startBlock_dmem (e : CatEntry) (s : State) : (startBlock e s).dmem = s.dmem := rfl
@[simp] theorem startBlock_out (e : CatEntry) (s : State) : (startBlock e s).out = s.out := rfl
@[simp] theorem startBlock_rsp (e : CatEntry) (s : State) : (startBlock e s).rsp = s.rsp := rfl
@[simp] theorem startBlock_hRdata (e : CatEntry) (s : State) : (startBlock e s).hRdata = s.hRdata := rfl
@[simp] theorem startBlock_cmd (e : CatEntry) (s : State) : (startBlock e s).cmd = s.cmd := rfl
@[simp] theorem startBlock_platOk (e : CatEntry) (s : State) : (startBlock e s).platOk = s.platOk := rfl
@[simp] theorem startBlock_txStatus (e : CatEntry) (s : State) : (startBlock e s).txStatus = s.txStatus := rfl
@[simp] theorem startBlock_choices (e : CatEntry) (s : State) : (startBlock e s).choices = s.choices := rfl
@[simp] theorem startBlock_draws (e : CatEntry) (s : State) : (startBlock e s).draws = s.draws := rfl

/-! ## raiseFault -/

@[simp] theorem raiseFault_cfg (f : FatalFault) (s : State) : (raiseFault f s).cfg = s.cfg := by
  cases f <;> rfl
@[simp] theorem raiseFault_started (f : FatalFault) (s : State) : (raiseFault f s).started = s.started := by
  cases f <;> rfl
@[simp] theorem raiseFault_cur (f : FatalFault) (s : State) : (raiseFault f s).cur = s.cur := by
  cases f <;> rfl
@[simp] theorem raiseFault_cursor (f : FatalFault) (s : State) : (raiseFault f s).cursor = s.cursor := by
  cases f <;> rfl
@[simp] theorem raiseFault_acc (f : FatalFault) (s : State) : (raiseFault f s).acc = s.acc := by
  cases f <;> rfl
@[simp] theorem raiseFault_rateEff (f : FatalFault) (s : State) : (raiseFault f s).rateEff = s.rateEff := by
  cases f <;> rfl
@[simp] theorem raiseFault_ovr (f : FatalFault) (s : State) : (raiseFault f s).ovr = s.ovr := by
  cases f <;> rfl
@[simp] theorem raiseFault_force (f : FatalFault) (s : State) : (raiseFault f s).force = s.force := by
  cases f <;> rfl
@[simp] theorem raiseFault_en (f : FatalFault) (s : State) : (raiseFault f s).en = s.en := by
  cases f <;> rfl
@[simp] theorem raiseFault_disp (f : FatalFault) (s : State) : (raiseFault f s).disp = s.disp := by
  cases f <;> rfl
@[simp] theorem raiseFault_ap (f : FatalFault) (s : State) : (raiseFault f s).ap = s.ap := by
  cases f <;> rfl
@[simp] theorem raiseFault_ci (f : FatalFault) (s : State) : (raiseFault f s).ci = s.ci := by
  cases f <;> rfl
@[simp] theorem raiseFault_oi (f : FatalFault) (s : State) : (raiseFault f s).oi = s.oi := by
  cases f <;> rfl
@[simp] theorem raiseFault_scanline (f : FatalFault) (s : State) : (raiseFault f s).scanline = s.scanline := by
  cases f <;> rfl
@[simp] theorem raiseFault_ph (f : FatalFault) (s : State) : (raiseFault f s).ph = s.ph := by
  cases f <;> rfl
@[simp] theorem raiseFault_si (f : FatalFault) (s : State) : (raiseFault f s).si = s.si := by
  cases f <;> rfl
@[simp] theorem raiseFault_scanBase (f : FatalFault) (s : State) : (raiseFault f s).scanBase = s.scanBase := by
  cases f <;> rfl
@[simp] theorem raiseFault_bufValid (f : FatalFault) (s : State) : (raiseFault f s).bufValid = s.bufValid := by
  cases f <;> rfl
@[simp] theorem raiseFault_oe (f : FatalFault) (s : State) : (raiseFault f s).oe = s.oe := by
  cases f <;> rfl
@[simp] theorem raiseFault_lat (f : FatalFault) (s : State) : (raiseFault f s).lat = s.lat := by
  cases f <;> rfl
@[simp] theorem raiseFault_rowA (f : FatalFault) (s : State) : (raiseFault f s).rowA = s.rowA := by
  cases f <;> rfl
@[simp] theorem raiseFault_rowB (f : FatalFault) (s : State) : (raiseFault f s).rowB = s.rowB := by
  cases f <;> rfl
@[simp] theorem raiseFault_eRej (f : FatalFault) (s : State) : (raiseFault f s).eRej = s.eRej := by
  cases f <;> rfl
@[simp] theorem raiseFault_dmem (f : FatalFault) (s : State) : (raiseFault f s).dmem = s.dmem := by
  cases f <;> rfl
@[simp] theorem raiseFault_out (f : FatalFault) (s : State) : (raiseFault f s).out = s.out := by
  cases f <;> rfl
@[simp] theorem raiseFault_rsp (f : FatalFault) (s : State) : (raiseFault f s).rsp = s.rsp := by
  cases f <;> rfl
@[simp] theorem raiseFault_hRdata (f : FatalFault) (s : State) : (raiseFault f s).hRdata = s.hRdata := by
  cases f <;> rfl
@[simp] theorem raiseFault_cmd (f : FatalFault) (s : State) : (raiseFault f s).cmd = s.cmd := by
  cases f <;> rfl
@[simp] theorem raiseFault_platOk (f : FatalFault) (s : State) : (raiseFault f s).platOk = s.platOk := by
  cases f <;> rfl
@[simp] theorem raiseFault_txStatus (f : FatalFault) (s : State) : (raiseFault f s).txStatus = s.txStatus := by
  cases f <;> rfl
@[simp] theorem raiseFault_choices (f : FatalFault) (s : State) : (raiseFault f s).choices = s.choices := by
  cases f <;> rfl
@[simp] theorem raiseFault_draws (f : FatalFault) (s : State) : (raiseFault f s).draws = s.draws := by
  cases f <;> rfl

/-- Raising a fault sets its own STATUS bit and no other. -/
@[simp] theorem raiseFault_fConfig (f : FatalFault) (s : State) :
    (raiseFault f s).fConfig = (s.fConfig || decide (f = .config)) := by
  cases f <;> simp [raiseFault]

@[simp] theorem raiseFault_fResource (f : FatalFault) (s : State) :
    (raiseFault f s).fResource = (s.fResource || decide (f = .resource)) := by
  cases f <;> simp [raiseFault]

@[simp] theorem raiseFault_fNoBuf (f : FatalFault) (s : State) :
    (raiseFault f s).fNoBuf = (s.fNoBuf || decide (f = .noBuf)) := by
  cases f <;> simp [raiseFault]

/-! ## consumeChoice: only the environment's list and counter move -/

@[simp] theorem consumeChoice_cfg (s : State) : (consumeChoice s).cfg = s.cfg := by
  unfold consumeChoice; split <;> rfl
@[simp] theorem consumeChoice_started (s : State) : (consumeChoice s).started = s.started := by
  unfold consumeChoice; split <;> rfl
@[simp] theorem consumeChoice_cur (s : State) : (consumeChoice s).cur = s.cur := by
  unfold consumeChoice; split <;> rfl
@[simp] theorem consumeChoice_cursor (s : State) : (consumeChoice s).cursor = s.cursor := by
  unfold consumeChoice; split <;> rfl
@[simp] theorem consumeChoice_acc (s : State) : (consumeChoice s).acc = s.acc := by
  unfold consumeChoice; split <;> rfl
@[simp] theorem consumeChoice_rateEff (s : State) : (consumeChoice s).rateEff = s.rateEff := by
  unfold consumeChoice; split <;> rfl
@[simp] theorem consumeChoice_ovr (s : State) : (consumeChoice s).ovr = s.ovr := by
  unfold consumeChoice; split <;> rfl
@[simp] theorem consumeChoice_force (s : State) : (consumeChoice s).force = s.force := by
  unfold consumeChoice; split <;> rfl
@[simp] theorem consumeChoice_en (s : State) : (consumeChoice s).en = s.en := by
  unfold consumeChoice; split <;> rfl
@[simp] theorem consumeChoice_disp (s : State) : (consumeChoice s).disp = s.disp := by
  unfold consumeChoice; split <;> rfl
@[simp] theorem consumeChoice_ap (s : State) : (consumeChoice s).ap = s.ap := by
  unfold consumeChoice; split <;> rfl
@[simp] theorem consumeChoice_ci (s : State) : (consumeChoice s).ci = s.ci := by
  unfold consumeChoice; split <;> rfl
@[simp] theorem consumeChoice_oi (s : State) : (consumeChoice s).oi = s.oi := by
  unfold consumeChoice; split <;> rfl
@[simp] theorem consumeChoice_scanline (s : State) : (consumeChoice s).scanline = s.scanline := by
  unfold consumeChoice; split <;> rfl
@[simp] theorem consumeChoice_ph (s : State) : (consumeChoice s).ph = s.ph := by
  unfold consumeChoice; split <;> rfl
@[simp] theorem consumeChoice_si (s : State) : (consumeChoice s).si = s.si := by
  unfold consumeChoice; split <;> rfl
@[simp] theorem consumeChoice_scanBase (s : State) : (consumeChoice s).scanBase = s.scanBase := by
  unfold consumeChoice; split <;> rfl
@[simp] theorem consumeChoice_bufValid (s : State) : (consumeChoice s).bufValid = s.bufValid := by
  unfold consumeChoice; split <;> rfl
@[simp] theorem consumeChoice_oe (s : State) : (consumeChoice s).oe = s.oe := by
  unfold consumeChoice; split <;> rfl
@[simp] theorem consumeChoice_lat (s : State) : (consumeChoice s).lat = s.lat := by
  unfold consumeChoice; split <;> rfl
@[simp] theorem consumeChoice_rowA (s : State) : (consumeChoice s).rowA = s.rowA := by
  unfold consumeChoice; split <;> rfl
@[simp] theorem consumeChoice_rowB (s : State) : (consumeChoice s).rowB = s.rowB := by
  unfold consumeChoice; split <;> rfl
@[simp] theorem consumeChoice_fConfig (s : State) : (consumeChoice s).fConfig = s.fConfig := by
  unfold consumeChoice; split <;> rfl
@[simp] theorem consumeChoice_fResource (s : State) : (consumeChoice s).fResource = s.fResource := by
  unfold consumeChoice; split <;> rfl
@[simp] theorem consumeChoice_fNoBuf (s : State) : (consumeChoice s).fNoBuf = s.fNoBuf := by
  unfold consumeChoice; split <;> rfl
@[simp] theorem consumeChoice_eRej (s : State) : (consumeChoice s).eRej = s.eRej := by
  unfold consumeChoice; split <;> rfl
@[simp] theorem consumeChoice_dmem (s : State) : (consumeChoice s).dmem = s.dmem := by
  unfold consumeChoice; split <;> rfl
@[simp] theorem consumeChoice_out (s : State) : (consumeChoice s).out = s.out := by
  unfold consumeChoice; split <;> rfl
@[simp] theorem consumeChoice_rsp (s : State) : (consumeChoice s).rsp = s.rsp := by
  unfold consumeChoice; split <;> rfl
@[simp] theorem consumeChoice_hRdata (s : State) : (consumeChoice s).hRdata = s.hRdata := by
  unfold consumeChoice; split <;> rfl
@[simp] theorem consumeChoice_cmd (s : State) : (consumeChoice s).cmd = s.cmd := by
  unfold consumeChoice; split <;> rfl
@[simp] theorem consumeChoice_platOk (s : State) : (consumeChoice s).platOk = s.platOk := by
  unfold consumeChoice; split <;> rfl
@[simp] theorem consumeChoice_txStatus (s : State) : (consumeChoice s).txStatus = s.txStatus := by
  unfold consumeChoice; split <;> rfl

end Sys2Proof.Machine
end

