-- ==== Sys2Proof/Laws/Ops.lean ====
section
/-!
SUPPORT. One lemma per shared operation and per meaning that branches: everything it can answer.
-/

namespace Sys2Proof.Machine

open Sys2Proof

/-- The next state an outcome answers is the one it holds. -/
theorem next_eq {s t : State} (h : (.next s : Host.Outcome State Fault Refusal) = .next t) :
    t = s := by
  injection h with h
  exact h.symm

/-- A command admitted only after INIT runs, or is rejected. -/
theorem whenStarted_next {s t : State} {k : Host.Outcome State Fault Refusal}
    (h : whenStarted s k = .next t) :
    (s.started = true ∧ k = .next t) ∨ (s.started = false ∧ t = reject s) := by
  unfold whenStarted at h
  split at h
  · exact .inl ⟨‹_›, h⟩
  · exact .inr ⟨Bool.eq_false_of_not_eq_true ‹_›, next_eq h⟩

/-- A SHIFT sends the byte of its group and goes on, or raises F_NOBUF. -/
theorem shiftOut_next {k : Nat} {f : State → State} {s t : State}
    (h : shiftOut k f s = .next t) :
    (s.bufValid = true ∧ shiftAddr s k < s.cfg.dmemSize ∧
      t = f (emit (.tx (Memory.read s.dmem (shiftAddr s k))) s)) ∨
    (s.bufValid = false ∧ t = raiseFault .noBuf s) := by
  unfold shiftOut at h
  split at h
  · split at h
    · cases h
    · rename_i v hv
      obtain ⟨ha, rfl⟩ := dmemRead_eq_some.1 hv
      exact .inl ⟨‹_›, ha, next_eq h⟩
  · exact .inr ⟨Bool.eq_false_of_not_eq_true ‹_›, next_eq h⟩

/-- INIT is rejected, or raises one of its two faults, or starts the block. -/
theorem execInit_next {s t : State} (h : execInit s = .next t) :
    (initAdmitted s = false ∧ t = reject s) ∨
    (initAdmitted s = true ∧ catalogValid s.cfg = false ∧
      t = respond .configFault (raiseFault .config s)) ∨
    (initAdmitted s = true ∧ catalogValid s.cfg = true ∧ s.platOk = false ∧
      t = respond .resourceFault (raiseFault .resource s)) ∨
    (initAdmitted s = true ∧ catalogValid s.cfg = true ∧ s.platOk = true ∧
      ∃ e, catEntry s.cfg s.cfg.defaultAnim = some e ∧ t = respond .ok (startBlock e s)) := by
  unfold execInit at h
  split at h
  · split at h
    · split at h
      · split at h
        · cases h
        · exact .inr (.inr (.inr ⟨‹_›, ‹_›, ‹_›, _, ‹_›, next_eq h⟩))
      · exact .inr (.inr (.inl ⟨‹_›, ‹_›, Bool.eq_false_of_not_eq_true ‹_›, next_eq h⟩))
    · exact .inr (.inl ⟨‹_›, Bool.eq_false_of_not_eq_true ‹_›, next_eq h⟩)
  · exact .inl ⟨Bool.eq_false_of_not_eq_true ‹_›, next_eq h⟩

/-- UPDATE is rejected, or begins a copy, or begins the overlay pass. -/
theorem execUpdate_next {s t : State} (h : execUpdate s = .next t) :
    (s.started = false ∧ t = reject s) ∨
    (s.started = true ∧ ∃ e, catEntry s.cfg s.cur = some e ∧
      ((elapses s = true ∧ e.length ≠ 0 ∧ t = beginCopy e s) ∨
        (elapses s = false ∧ t = beginOverlay s))) := by
  rcases whenStarted_next h with ⟨hs, h⟩ | ⟨hs, ht⟩
  · refine .inr ⟨hs, ?_⟩
    split at h
    · cases h
    · split at h
      · split at h
        · cases h
        · exact ⟨_, ‹_›, .inl ⟨‹_›, ‹_›, next_eq h⟩⟩
      · exact ⟨_, ‹_›, .inr ⟨Bool.eq_false_of_not_eq_true ‹_›, next_eq h⟩⟩
  · exact .inl ⟨hs, ht⟩

/-- COPYB writes the byte of COPY_ORDER(CI) and moves on. -/
theorem execCopyb_next {s t : State} (h : execCopyb s = .next t) :
    sheetAddr s (copyIndex s).toNat < s.cfg.sheetSize ∧
    fbAddr s (copyIndex s).toNat < s.cfg.dmemSize ∧
    t = afterCopy { s with
      dmem := Memory.write s.dmem (fbAddr s (copyIndex s).toNat)
        (Memory.read s.cfg.sheet (sheetAddr s (copyIndex s).toNat)) } := by
  unfold execCopyb at h
  simp only [] at h
  split at h
  · cases h
  · rename_i v hv
    obtain ⟨ha, rfl⟩ := sheetRead_eq_some.1 hv
    split at h
    · cases h
    · rename_i u hu
      obtain ⟨hb, rfl⟩ := dmemWrite_eq_some.1 hu
      exact ⟨ha, hb, next_eq h⟩

/-- With the FRAME_SIZE of R4 the copy ends at CI = 63. -/
theorem afterCopy_eq {s : State} (h : s.cfg.sourceValues = true) :
    afterCopy s = if s.ci = 63 then { s with ap := 2, oi := 0 } else { s with ci := s.ci + 1 } := by
  have hc : s.ci.toNat + 1 = s.cfg.frameSize ↔ s.ci = 63 := by
    rw [(Config.sourceValues_eq h).1, ← BitVec.toNat_inj]
    exact Nat.succ_inj
  rw [afterCopy, if_congr hc rfl rfl]

/-- OVLB writes the byte of icon OI and moves on. -/
theorem execOvlb_next {s t : State} (h : execOvlb s = .next t) :
    ∃ x base, iconOf s.cfg s.oi = some x ∧ fbAddr s x.byte < s.cfg.dmemSize ∧
      (iconShown s s.oi = false → base = Memory.read s.cfg.sheet (sheetAddr s x.byte)) ∧
      t = afterOverlay { s with
        dmem := Memory.write s.dmem (fbAddr s x.byte)
          (overlayByte (iconShown s s.oi) x.mask (Memory.read s.dmem (fbAddr s x.byte)) base) } := by
  unfold execOvlb at h
  split at h
  · cases h
  · split at h
    · cases h
    · rename_i x hx _ old ho
      obtain ⟨ha, rfl⟩ := dmemRead_eq_some.1 ho
      split at h
      · cases h
      · rename_i base hb
        split at h
        · cases h
        · rename_i u hu
          obtain ⟨-, rfl⟩ := dmemWrite_eq_some.1 hu
          refine ⟨x, base, hx, ha, fun hs => ?_, next_eq h⟩
          rw [hs] at hb
          exact (sheetRead_eq_some.1 hb).2

/-- A sequencer runs what its register selects, or does nothing. -/
theorem microStep_next {c : Code} {s t : State} (h : microStep c s = .next t) :
    (∃ i, decode c = .ok i ∧ exec i s = .next t) ∨ ((∃ e, decode c = .error e) ∧ t = s) := by
  unfold microStep at h
  split at h
  · exact .inl ⟨_, ‹_›, h⟩
  · exact .inr ⟨⟨_, ‹_›⟩, next_eq h⟩

/-- An accepted word is carried out, or rejected as reserved. -/
theorem acceptWord_next {w : CmdWord} {s t : State} (h : acceptWord w s = .next t) :
    (∃ i, decode (.cmd w) = .ok i ∧ exec i s = .next t) ∨
    ((∃ e, decode (.cmd w) = .error e) ∧ t = reject s) := by
  unfold acceptWord at h
  split at h
  · exact .inl ⟨_, ‹_›, h⟩
  · exact .inr ⟨⟨_, ‹_›⟩, next_eq h⟩

/-- The operation a value of PH selects. -/
theorem decodeSseq_ok {ph : BitVec 4} {i : Instr} (h : decode (.sseq ph) = .ok i) :
    (ph = 0 ∧ i = .shift3) ∨ (ph = 1 ∧ i = .shift2) ∨ (ph = 2 ∧ i = .shift1) ∨
    (ph = 3 ∧ i = .shift0) ∨ (ph = 4 ∧ i = .oeoff) ∨ (ph = 5 ∧ i = .lathi) ∨
    (ph = 6 ∧ i = .latwait) ∨ (ph = 7 ∧ i = .latlo) ∨ (ph = 8 ∧ i = .rowsel) ∨
    (ph = 9 ∧ i = .oeon) ∨ (ph = 10 ∧ i = .adv) ∨ (ph = 11 ∧ i = .sleep) := by
  match ph with
  | 0 => injection h with h; subst h; simp
  | 1 => injection h with h; subst h; simp
  | 2 => injection h with h; subst h; simp
  | 3 => injection h with h; subst h; simp
  | 4 => injection h with h; subst h; simp
  | 5 => injection h with h; subst h; simp
  | 6 => injection h with h; subst h; simp
  | 7 => injection h with h; subst h; simp
  | 8 => injection h with h; subst h; simp
  | 9 => injection h with h; subst h; simp
  | 10 => injection h with h; subst h; simp
  | 11 => injection h with h; subst h; simp
  | 12 | 13 | 14 | 15 => cases h
  | ⟨⟨n + 16, hn⟩⟩ => exact absurd hn (by omega)

/-- The operation a value of AP selects. -/
theorem decodeAseq_ok {ap : BitVec 2} {i : Instr} (h : decode (.aseq ap) = .ok i) :
    (ap = 1 ∧ i = .copyb) ∨ (ap = 2 ∧ i = .ovlb) := by
  match ap with
  | 0 | 3 => cases h
  | 1 => exact .inl ⟨rfl, by injection h with h; exact h.symm⟩
  | 2 => exact .inr ⟨rfl, by injection h with h; exact h.symm⟩

/-- Only the six commands come from the port (R61). -/
theorem decodeCmd_ok {w : CmdWord} {i : Instr} (h : decode (.cmd w) = .ok i) :
    i = .init ∨ (∃ id, i = .select id) ∨ (∃ ms, i = .setrate ms) ∨
    (∃ x b, i = .showicon x b) ∨ i = .update ∨ ∃ p, i = .setbuf p := by
  simp only [decode, decodeCmd] at h
  split at h
  · split at h <;> cases h; exact .inl rfl
  · split at h <;> cases h; exact .inr (.inl ⟨_, rfl⟩)
  · cases h; exact .inr (.inr (.inl ⟨_, rfl⟩))
  · split at h <;> cases h; exact .inr (.inr (.inr (.inl ⟨_, _, rfl⟩)))
  · split at h <;> cases h; exact .inr (.inr (.inr (.inr (.inl rfl))))
  · cases h; exact .inr (.inr (.inr (.inr (.inr ⟨_, rfl⟩))))
  · cases h

end Sys2Proof.Machine
end

