-- ==== Sys2Proof/Laws/Frame.lean ====
section
/-!
SUPPORT. What the operations of each agent leave alone, said once: the commands of the port
never touch the scanner or DMEM, the frame-copy sequencer never touches the scanner or STATUS,
the scanner never touches the engine or DMEM (spec/10_state.md R25; spec/20_memory.md R50, R51;
spec/60_exceptions.md R179).
-/

namespace Sys2Proof.Machine

open Sys2Proof

/-- The scanner's registers and pins, OUT and F_NOBUF are the same. -/
def SameScanner (s t : State) : Prop :=
  t.scanline = s.scanline ∧ t.ph = s.ph ∧ t.si = s.si ∧ t.oe = s.oe ∧ t.lat = s.lat ∧
    t.rowA = s.rowA ∧ t.rowB = s.rowB ∧ t.out = s.out ∧ t.fNoBuf = s.fNoBuf

/-- A command of the port leaves the scanner, DMEM and the configuration alone and clears no
STATUS bit. -/
theorem command_frame {w : CmdWord} {i : Instr} {s t : State} (hd : decode (.cmd w) = .ok i)
    (h : exec i s = .next t) :
    SameScanner s t ∧ t.dmem = s.dmem ∧ t.cfg = s.cfg ∧ (s.started = true → t.started = true) ∧
      (s.fConfig = true → t.fConfig = true) ∧ (s.fResource = true → t.fResource = true) ∧
      (s.eRej = true → t.eRej = true) := by
  rcases decodeCmd_ok hd with rfl | ⟨_, rfl⟩ | ⟨_, rfl⟩ | ⟨_, _, rfl⟩ | rfl | ⟨_, rfl⟩
  · rcases execInit_next h with ⟨_, rfl⟩ | ⟨_, _, rfl⟩ | ⟨_, _, _, rfl⟩ | ⟨_, _, _, _, _, rfl⟩ <;>
      simp [SameScanner, reject, respond, raiseFault, startBlock]
  · rcases whenStarted_next h with ⟨_, h⟩ | ⟨_, rfl⟩
    · split_ifs at h <;> cases next_eq h <;> simp [SameScanner, reject, respond, switchTo]
    · simp [SameScanner, reject]
  · rcases whenStarted_next h with ⟨_, h⟩ | ⟨_, rfl⟩
    · split_ifs at h <;> cases next_eq h <;> simp [SameScanner, reject, respond]
    · simp [SameScanner, reject]
  · rcases whenStarted_next h with ⟨_, h⟩ | ⟨_, rfl⟩
    · split_ifs at h <;> cases next_eq h <;> simp [SameScanner, reject, respond]
    · simp [SameScanner, reject]
  · rcases execUpdate_next h with ⟨_, rfl⟩ | ⟨_, _, _, ⟨_, _, rfl⟩ | ⟨_, rfl⟩⟩ <;>
      simp [SameScanner, reject, beginCopy, beginOverlay]
  · simp only [exec, execSetbuf] at h
    split_ifs at h <;> cases next_eq h <;> simp [SameScanner, reject, respond]

/-- A micro-step of the frame-copy sequencer leaves the scanner, STATUS and the configuration
alone. -/
theorem engine_frame {ap : BitVec 2} {i : Instr} {s t : State} (hd : decode (.aseq ap) = .ok i)
    (h : exec i s = .next t) :
    SameScanner s t ∧ t.status = s.status ∧ t.cfg = s.cfg ∧ t.started = s.started := by
  rcases decodeAseq_ok hd with ⟨_, rfl⟩ | ⟨_, rfl⟩
  · obtain ⟨_, _, rfl⟩ := execCopyb_next h
    unfold afterCopy
    split <;> simp [SameScanner, State.status]
  · obtain ⟨_, _, _, _, _, rfl⟩ := execOvlb_next h
    unfold afterOverlay
    split <;> simp [SameScanner, State.status, respond]

/-- A micro-step of the scanner leaves the frame-copy engine, DMEM, the configuration and the
other STATUS bits alone; OUT only grows. -/
theorem scanner_frame {ph : BitVec 4} {i : Instr} {s t : State} (hd : decode (.sseq ph) = .ok i)
    (h : exec i s = .next t) :
    (t.started = s.started ∧ t.fConfig = s.fConfig ∧ t.fResource = s.fResource ∧
      t.eRej = s.eRej ∧ (s.fNoBuf = true → t.fNoBuf = true)) ∧
    (t.dmem = s.dmem ∧ t.cfg = s.cfg ∧ s.out <+: t.out) ∧
    (t.cur = s.cur ∧ t.cursor = s.cursor ∧ t.acc = s.acc ∧ t.rateEff = s.rateEff ∧
      t.ovr = s.ovr ∧ t.force = s.force ∧ t.en = s.en ∧ t.disp = s.disp ∧ t.ap = s.ap ∧
      t.ci = s.ci ∧ t.oi = s.oi ∧ t.scanBase = s.scanBase ∧ t.bufValid = s.bufValid) := by
  rcases decodeSseq_ok hd with ⟨_, rfl⟩ | ⟨_, rfl⟩ | ⟨_, rfl⟩ | ⟨_, rfl⟩ | ⟨_, rfl⟩ | ⟨_, rfl⟩ |
    ⟨_, rfl⟩ | ⟨_, rfl⟩ | ⟨_, rfl⟩ | ⟨_, rfl⟩ | ⟨_, rfl⟩ | ⟨_, rfl⟩
  · rcases shiftOut_next h with ⟨_, _, rfl⟩ | ⟨_, rfl⟩ <;> simp [gotoPhase, emit, raiseFault]
  · rcases shiftOut_next h with ⟨_, _, rfl⟩ | ⟨_, rfl⟩ <;> simp [gotoPhase, emit, raiseFault]
  · rcases shiftOut_next h with ⟨_, _, rfl⟩ | ⟨_, rfl⟩ <;> simp [gotoPhase, emit, raiseFault]
  · rcases shiftOut_next h with ⟨_, _, rfl⟩ | ⟨_, rfl⟩
    · unfold afterLastGroup
      split_ifs <;> simp [gotoPhase, emit]
    · simp [raiseFault]
  all_goals cases next_eq h
  all_goals try (simp [gotoPhase, emit, driveOe, driveLat, driveRow]; done)
  simp only [waitPeriod]
  split_ifs <;> simp [gotoPhase, emit, driveOe, List.append_assoc]

end Sys2Proof.Machine
end

