-- ==== Sys2Proof/Laws/PerInstr.lean ====
section
/-!
SUPPORT. Statements made of every operation, one lemma per constructor of Instr. The family
TableRow says that an operation's encoding matches its row of spec/opcode_table.json
(spec/30_encoding.md R66, R67, R74), for every value of its operands.
-/

namespace Sys2Proof.Laws.TableRow

/-- The selector that encodes `i`, masked with the mask of its row, is the row's match. -/
def Statement (i : Instr) : Prop := codeNat (encode i) &&& (tableRow i).1 = (tableRow i).2

theorem init : Statement .init := rfl

theorem select (id : BitVec 8) : Statement (.select id) := by
  have h : ((0#8 ++ id : BitVec 16) &&& 0xFF00#16) = 0 := by
    revert id
    decide
  have e := cmdWord_and 0x2 0xF (0#8 ++ id) 0xFF00#16
  rw [h] at e
  exact e

theorem setrate (ms : BitVec 16) : Statement (.setrate ms) := by
  have e := cmdWord_and 0x3 0xF ms 0#16
  rw [BitVec.and_zero] at e
  exact e

theorem showicon (icon : BitVec 2) (enabled : Bool) : Statement (.showicon icon enabled) := by
  unfold Statement
  revert icon enabled
  decide

theorem update : Statement .update := rfl

theorem setbuf (ptr : BitVec 16) : Statement (.setbuf ptr) := by
  have e := cmdWord_and 0x6 0xF ptr 0#16
  rw [BitVec.and_zero] at e
  exact e

theorem copyb : Statement .copyb := rfl

theorem ovlb : Statement .ovlb := rfl

theorem shift3 : Statement .shift3 := rfl

theorem shift2 : Statement .shift2 := rfl

theorem shift1 : Statement .shift1 := rfl

theorem shift0 : Statement .shift0 := rfl

theorem oeoff : Statement .oeoff := rfl

theorem lathi : Statement .lathi := rfl

theorem latwait : Statement .latwait := rfl

theorem latlo : Statement .latlo := rfl

theorem rowsel : Statement .rowsel := rfl

theorem oeon : Statement .oeon := rfl

theorem adv : Statement .adv := rfl

theorem sleep : Statement .sleep := rfl

end Sys2Proof.Laws.TableRow
end

