-- ==== Sys2Proof/Laws/Step.lean ====
section
/-!
SUPPORT. What a step can do, said once: every invariant follows from `step_next`.
-/

namespace Sys2Proof.Machine

open Sys2Proof

/-- A step that answers a next state, by the choice it acts on. `u` is the state with the choice
taken; an agent without a step leaves `u` as it is. -/
theorem step_next {s t : State} (h : step s = .next t) :
    let u := consumeChoice s
    (nextChoice s = .scan ∧
      ((s.scanEnabled = true ∧ ∃ i, decode (.sseq s.ph) = .ok i ∧ exec i u = .next t) ∨
        ((s.scanEnabled = true → ∃ e, decode (.sseq s.ph) = .error e) ∧ t = u))) ∨
    (nextChoice s = .anim ∧
      ((s.animEnabled = true ∧ ∃ i, decode (.aseq s.ap) = .ok i ∧ exec i u = .next t) ∨
        ((s.animEnabled = true → ∃ e, decode (.aseq s.ap) = .error e) ∧ t = u))) ∨
    (nextChoice s = .port ∧
      ((s.ap = 0 ∧ ∃ w, s.cmd = some w ∧
        ((∃ i, decode (.cmd w) = .ok i ∧ exec i { u with cmd := none } = .next t) ∨
          ((∃ e, decode (.cmd w) = .error e) ∧ t = reject { u with cmd := none }))) ∨
        ((s.ap = 0 → s.cmd = none) ∧ t = u))) ∨
    (∃ a v, nextChoice s = .hwrite a v ∧ a.toNat < s.cfg.dmemSize ∧
      t = { u with dmem := Memory.write s.dmem a.toNat v }) ∨
    (∃ a, nextChoice s = .hread a ∧ a.toNat < s.cfg.dmemSize ∧
      t = { u with hRdata := Memory.read s.dmem a.toNat }) ∨
    (∃ w, nextChoice s = .offer w ∧ s.cmd = none ∧ t = { u with cmd := some w }) ∨
    (∃ b, nextChoice s = .plat b ∧ t = { u with platOk := b }) ∨
    (∃ b, nextChoice s = .txStatus b ∧ t = { u with txStatus := b }) ∨
    (nextChoice s = .rst ∧ t = rst u) := by
  intro u
  have hs : (consumeChoice s).scanEnabled = s.scanEnabled := by simp [State.scanEnabled]
  have ha : (consumeChoice s).animEnabled = s.animEnabled := by simp [State.animEnabled]
  have hc : (consumeChoice s).cmdReady = s.cmdReady := by simp [State.cmdReady]
  simp only [step, stepOnce] at h
  cases hn : nextChoice s with
  | scan =>
    rw [hn] at h
    simp only [act, scanStep, hs, consumeChoice_ph] at h
    refine .inl ⟨rfl, ?_⟩
    split at h
    · rcases microStep_next h with ⟨i, hi, he⟩ | ht
      · exact .inl ⟨‹_›, i, hi, he⟩
      · exact .inr ⟨fun _ => ht.1, ht.2⟩
    · exact .inr ⟨fun hc => absurd hc ‹_›, next_eq h⟩
  | anim =>
    rw [hn] at h
    simp only [act, animStep, ha, consumeChoice_ap] at h
    refine .inr (.inl ⟨rfl, ?_⟩)
    split at h
    · rcases microStep_next h with ⟨i, hi, he⟩ | ht
      · exact .inl ⟨‹_›, i, hi, he⟩
      · exact .inr ⟨fun _ => ht.1, ht.2⟩
    · exact .inr ⟨fun hc => absurd hc ‹_›, next_eq h⟩
  | port =>
    rw [hn] at h
    simp only [act, portStep, hc, consumeChoice_cmd] at h
    refine .inr (.inr (.inl ⟨rfl, ?_⟩))
    split at h
    · exact .inr ⟨fun _ => ‹_›, next_eq h⟩
    · rename_i w hw
      split at h
      · rename_i hr
        refine .inl ⟨by simpa [State.cmdReady] using hr, w, hw, ?_⟩
        exact acceptWord_next h
      · rename_i hr
        exact .inr ⟨fun hc => absurd (by simp [State.cmdReady, hc]) hr, next_eq h⟩
  | hwrite a v =>
    rw [hn] at h
    simp only [act, hostWrite] at h
    split at h
    · cases h
    · rename_i m hm
      obtain ⟨hlt, rfl⟩ := dmemWrite_eq_some.1 hm
      refine .inr (.inr (.inr (.inl ⟨a, v, rfl, by simpa using hlt, ?_⟩)))
      injection h with h
      rw [← h, consumeChoice_dmem]
  | hread a =>
    rw [hn] at h
    simp only [act, hostRead] at h
    split at h
    · cases h
    · rename_i m hm
      obtain ⟨hlt, rfl⟩ := dmemRead_eq_some.1 hm
      refine .inr (.inr (.inr (.inr (.inl ⟨a, rfl, by simpa using hlt, ?_⟩))))
      injection h with h
      rw [← h, consumeChoice_dmem]
  | offer w =>
    rw [hn] at h
    simp only [act, offerWord, consumeChoice_cmd] at h
    split at h
    · exact .inr (.inr (.inr (.inr (.inr (.inl ⟨w, rfl, ‹_›, next_eq h⟩)))))
    · cases h
  | plat b =>
    rw [hn] at h
    exact .inr (.inr (.inr (.inr (.inr (.inr (.inl ⟨b, rfl, next_eq h⟩))))))
  | txStatus b =>
    rw [hn] at h
    exact .inr (.inr (.inr (.inr (.inr (.inr (.inr (.inl ⟨b, rfl, next_eq h⟩)))))))
  | rst =>
    rw [hn] at h
    exact .inr (.inr (.inr (.inr (.inr (.inr (.inr (.inr ⟨rfl, next_eq h⟩)))))))

end Sys2Proof.Machine
end

