-- ==== Sys2Proof/Machine/Bench.lean ====
section
/-!
DEFINITION. The lines of a listing (spec/30_encoding.md R69, R70): commands, the two pseudo
instructions and the directives of the test bench, each as the choices of the environment it
stands for (log 27). Text is not parsed.
-/

namespace Sys2Proof.Machine

open Sys2Proof

/-- One line of a listing (R69, R70). -/
inductive Line where
  | command (i : Instr)
  /-- `HIDEICON x` = `SHOWICON x, 0`. -/
  | hideIcon (icon : BitVec 2)
  /-- `TICKS n` = `UPDATE` repeated `n` times. -/
  | ticks (n : Nat)
  /-- `.plat b`. -/
  | plat (ok : Bool)
  /-- `.hwrite a, v`. -/
  | hwrite (a : Addr) (v : Byte)
  /-- `.hread a`. -/
  | hread (a : Addr)
  /-- `.scan n`: `n` complete scan cycles of 12 micro-steps each. -/
  | scan (n : Nat)
  /-- `.step SCAN n`. -/
  | stepScan (n : Nat)
deriving DecidableEq, Repr

/-- A command up to its response: the word is offered and accepted, and an UPDATE has its 67
micro-steps, of which ANIM leaves the surplus untaken when the tick does not elapse
(spec/41_update_framecopy.md R105; log 5). A micro-step is no command. -/
def commandChoices (i : Instr) : List Choice :=
  match encode i with
  | .cmd w =>
    .offer w :: .port :: (if i = .update then List.replicate 67 .anim else [])
  | .aseq _ => []
  | .sseq _ => []

/-- The choices a line stands for, no other agent stepping between them (R69). -/
def lineChoices : Line → List Choice
  | .command i => commandChoices i
  | .hideIcon x => commandChoices (.showicon x false)
  | .ticks n => (List.replicate n (commandChoices .update)).flatten
  | .plat ok => [.plat ok]
  | .hwrite a v => [.hwrite a v]
  | .hread a => [.hread a]
  | .scan n => List.replicate (12 * n) .scan
  | .stepScan n => List.replicate n .scan

end Sys2Proof.Machine
end

