-- ==== Sys2Proof/Tests/Slice0.lean ====
section
/-!
SUPPORT. Small tests. Words and expected values are written out from spec/30_encoding.md and
spec/95_test_vectors.md; each comment names the vector. A theorem named test_meets_X shows
concrete data that meet every hypothesis (and every branch) of Obligations.X.
-/

namespace Sys2Proof.Tests

open Sys2Proof Sys2Proof.Machine

/-! ## Helpers -/

/-- What `f` sees in the next state, where there is one. -/
def see {α : Type} (f : State → α) : Host.Outcome State Fault Refusal → Option α
  | .next s => some (f s)
  | .fault _ => none
  | .refused _ => none

/-- TC1 of spec/95_test_vectors.md section 1 with the sheet bytes of the icons' places in frames 0,
1 and 4 (byte j of frame i is (64*i + j) mod 256), the others blank. -/
def tc1 : Config :=
  { Config.initial with
    sheet := [(4, 0x04), (8, 0x08), (60, 0x3C), (64, 0x40), (68, 0x44), (72, 0x48), (124, 0x7C),
      (260, 0x04)] }

/-- TC1 after SETBUF 0x40 and INIT, both answered OK. -/
def booted : State :=
  { State.resetWith tc1 [(0x44, 0x04), (0x48, 0x08), (0x7C, 0x3C)] with
    started := true, rateEff := 3, force := true, scanBase := 0x40, bufValid := true,
    rsp := some .ok }

/-- The start state of the vectors V-ENC: TC1 after SETBUF 0x40, INIT and one UPDATE, the frame
buffer holding frame 0. -/
def running : State := { booted with cursor := 1, force := false }

/-- A catalog defect: a length of 0 (TC3a). -/
def tc3a : Config := { tc1 with cat := [⟨0, 2, 3⟩, ⟨2, 0, 2⟩] }

/-- The scanner's buffer of the vectors V-SCAN: byte j = j at the offsets of scanline 2. -/
def scanning : State :=
  { running with dmem := [(0x48, 0x08), (0x58, 0x18), (0x68, 0x28), (0x78, 0x38)], scanline := 2 }

/-- `BlockInv` as a check, for concrete states. -/
def invCheck (s : State) : Bool :=
  s.cfg.wf && Memory.wf s.cfg.dmemSize s.dmem && decide (s.ph.toNat < 12) && decide (s.ap ≠ 3) &&
  decide (s.oi ≠ 3) && decide (s.si.toNat < s.cfg.scanSpan) &&
  decide (s.disp.toNat < s.cfg.numOfFrames) &&
  (!s.bufValid || decide (s.scanBase.toNat + s.cfg.frameSize ≤ s.cfg.dmemSize)) &&
  (!s.started || (catalogValid s.cfg && decide (s.acc.toNat < s.rateEff.toNat) &&
    match catEntry s.cfg s.cur with
    | some e => decide (s.cursor.toNat < e.length.toNat)
    | none => false)) &&
  (decide (s.ap = 0) || s.started) &&
  !(s.started && s.fConfig) && !(s.started && s.fResource) && !(s.fConfig && s.fResource) &&
  (!s.fNoBuf || s.started) &&
  ((s.started && s.bufValid && !s.fNoBuf) ||
    decide (s.scanline = 0 ∧ s.ph = 0 ∧ s.si = 0 ∧ s.oe = false ∧ s.lat = false ∧ s.rowA = false ∧
      s.rowB = false ∧ s.out = [])) &&
  (s.started || decide (s.ovr = 0 ∧ s.en = 0)) && s.pinsOk

theorem invCheck_sound {s : State} (h : invCheck s = true) : BlockInv s := by
  simp only [invCheck, Bool.and_eq_true, Bool.or_eq_true, Bool.not_eq_true', decide_eq_true_eq,
    Bool.and_eq_false_iff] at h
  obtain ⟨⟨⟨⟨⟨⟨⟨⟨⟨⟨⟨⟨⟨⟨⟨⟨h1, h2⟩, h3⟩, h4⟩, h5⟩, h6⟩, h7⟩, h8⟩, h9⟩, h10⟩, h11⟩, h12⟩, h13⟩, h14⟩,
    h15⟩, h16⟩, h17⟩ := h
  refine ⟨h1, h2, h3, h4, h5, h6, h7, ?_, ?_, ?_, ?_, ?_, ?_, ?_, h17⟩
  · intro hb
    rcases h8 with h | h
    · simp [hb] at h
    · exact h
  · intro hs
    rcases h9 with h | ⟨⟨ha, hb⟩, hc⟩
    · simp [hs] at h
    · refine ⟨ha, hb, ?_⟩
      split at hc
      · exact ⟨_, ‹_›, by simpa using hc⟩
      · cases hc
  · intro ha
    exact h10.resolve_left ha
  · refine ⟨?_, ?_, ?_⟩ <;> simp only [not_and, Bool.not_eq_true] <;> intro ha
    · exact h11.resolve_left (by simp [ha])
    · exact h12.resolve_left (by simp [ha])
    · exact h13.resolve_left (by simp [ha])
  · intro ha
    exact h14.resolve_left (by simp [ha])
  · intro ha
    rcases h15 with ⟨⟨hs, hb⟩, hn⟩ | h
    · simp [hs, hb, hn] at ha
    · exact h
  · intro hs
    rcases h16 with h | h
    · simp [hs] at h
    · exact h

/-! ## WellFormed: each check refuses an ill-formed configuration (spec/00_scope.md R5) -/

theorem test_wf_initial : Config.initial.wf = true ∧ tc1.wf = true := by decide
theorem test_wf_refuses_no_animation : { tc1 with cat := [] }.wf = false := by decide
theorem test_wf_refuses_default_anim : { tc1 with defaultAnim := 3 }.wf = false := by decide
theorem test_wf_refuses_window : { tc1 with animFbBase := 0xC1 }.wf = false := by decide
theorem test_wf_refuses_dmem_size : { tc1 with dmemSize := 65537 }.wf = false := by decide
theorem test_wf_refuses_icon_byte : { tc1 with sick := ⟨64, 0x80⟩ }.wf = false := by decide
theorem test_wf_refuses_blank_mask : { tc1 with sleep := ⟨60, 0⟩ }.wf = false := by decide
theorem test_wf_refuses_overlap : { tc1 with sick := ⟨4, 0x03⟩ }.wf = false := by decide
theorem test_wf_refuses_rowsel_map :
    { tc1 with rowselMap := { RowselMap.binary with code3 := (false, true) } }.wf = false := by
  decide
theorem test_wf_refuses_scan_span :
    { tc1 with scanSpan := 0 }.wf = false ∧ { tc1 with scanSpan := 5 }.wf = false := by decide
theorem test_wf_refuses_oe_on_ms : { tc1 with oeOnMs := 6 }.wf = false := by decide
theorem test_wf_refuses_period : { tc1 with oeOnMs := 0, scanPeriodMs := 0 }.wf = false := by decide
/-- Each value R4 states, and its neighbour. -/
theorem test_wf_refuses_other_frames :
    { tc1 with frameSize := 63 }.wf = false ∧ { tc1 with numOfFrames := 168 }.wf = false ∧
      { tc1 with lengthMin := 0 }.wf = false ∧ { tc1 with lengthMax := 256 }.wf = false ∧
      { tc1 with tickMs := 2 }.wf = false := by decide
theorem test_wf_refuses_other_geometry :
    { tc1 with numScanlines := 3 }.wf = false ∧ { tc1 with groupStride := 15 }.wf = false ∧
      { tc1 with scanlineStride := 5 }.wf = false ∧ { tc1 with addrW := 17 }.wf = false := by decide
theorem test_wf_refuses_other_panel :
    { tc1 with rows := 8 }.wf = false ∧ { tc1 with cols := 16 }.wf = false ∧
      { tc1 with rowsPerGroup := 8 }.wf = false ∧ { tc1 with bytesPerScanline := 16 }.wf = false := by
  decide
/-- Log 28: no hold of 0; the longest the 8-bit port can ask for is legal. -/
theorem test_wf_refuses_no_hold :
    { tc1 with latchHoldUs := 0 }.wf = false ∧ { tc1 with latchHoldUs := 255 }.wf = true := by decide
/-- Either bit order is legal (OPEN). -/
theorem test_wf_any_bit_order : { tc1 with txBitOrder := .lsbFirst }.wf = true := by decide
theorem test_wf_refuses_copy_order :
    { tc1 with copyOrder := Config.ascending.dropLast }.wf = false ∧
      { tc1 with copyOrder := 1 :: Config.ascending.tail }.wf = false := by decide

/-! ## Decode: one word per operation, from spec/30_encoding.md R62, R66, R67 -/

theorem test_decode_init : decode (.cmd 0b00010000000000000000) = .ok .init := by decide
theorem test_decode_select : decode (.cmd 0b00100000000000000010) = .ok (.select 2) := by decide
theorem test_decode_setrate : decode (.cmd 0b00110000000000000101) = .ok (.setrate 5) := by decide
theorem test_decode_showicon :
    decode (.cmd 0b01000000000000000110) = .ok (.showicon 2 true) ∧
      decode (.cmd 0b01000000000000000001) = .ok (.showicon 1 false) := by decide
theorem test_decode_update : decode (.cmd 0b01010000000000000000) = .ok .update := by decide
theorem test_decode_setbuf : decode (.cmd 0b01100000000011000001) = .ok (.setbuf 0x00C1) := by
  decide
theorem test_decode_copyb : decode (.aseq 0b01) = .ok .copyb := by decide
theorem test_decode_ovlb : decode (.aseq 0b10) = .ok .ovlb := by decide
theorem test_decode_shifts :
    decode (.sseq 0b0000) = .ok .shift3 ∧ decode (.sseq 0b0001) = .ok .shift2 ∧
      decode (.sseq 0b0010) = .ok .shift1 ∧ decode (.sseq 0b0011) = .ok .shift0 := by decide
theorem test_decode_latch :
    decode (.sseq 0b0100) = .ok .oeoff ∧ decode (.sseq 0b0101) = .ok .lathi ∧
      decode (.sseq 0b0110) = .ok .latwait ∧ decode (.sseq 0b0111) = .ok .latlo := by decide
theorem test_decode_rows :
    decode (.sseq 0b1000) = .ok .rowsel ∧ decode (.sseq 0b1001) = .ok .oeon ∧
      decode (.sseq 0b1010) = .ok .adv ∧ decode (.sseq 0b1011) = .ok .sleep := by decide
/-- V-ENC-1, 3, 9, 21, 23, 30, 32, and the registers' unused values. -/
theorem test_decode_reserved :
    decode (.cmd 0x00000) = .error .opcode ∧ decode (.cmd 0x10001) = .error .mustBeZero ∧
      decode (.cmd 0x20103) = .error .mustBeZero ∧ decode (.cmd 0x40008) = .error .mustBeZero ∧
      decode (.cmd 0x50001) = .error .mustBeZero ∧ decode (.cmd 0x70000) = .error .opcode ∧
      decode (.cmd 0xFFFFF) = .error .opcode ∧ decode (.aseq 0) = .error .idle ∧
      decode (.aseq 3) = .error .apUnreachable ∧ decode (.sseq 12) = .error .phUnreachable := by
  decide
/-- The opcode table's numbering: 20-bit words, PH and AP (spec/opcode_table.json). -/
theorem test_decodeTableWord :
    decodeTableWord 20 0x40006 = some (.showicon 2 true) ∧
      decodeTableWord 24 0x50000 = some .update ∧ decodeTableWord 4 0xB = some .sleep ∧
      decodeTableWord 2 0b10 = some .ovlb ∧ decodeTableWord 24 0x100000 = none := by decide

/-! ## One step of each operation -/

/-- V-INIT-1: CURSOR 0, RATE_EFF 3, FORCE 1, STATUS 00001. -/
theorem test_init_starts :
    see (fun s => (s.cursor, s.rateEff, s.force, s.status, s.rsp))
      (exec .init (State.resetWith tc1 [])) = some (0, 3, true, 0b00001, some .ok) := by decide
/-- R207: Booted(0x40) is SETBUF and INIT from reset, RATE_EFF being CAT[0].rate; there is none for a
window that leaves DMEM or for a defective catalog. -/
theorem test_booted :
    State.booted tc1 [(0x44, 0x04), (0x48, 0x08), (0x7C, 0x3C)] 0x40 = some booted ∧
      State.booted tc1 [] 0xC1 = none ∧ State.booted tc3a [] 0x40 = none := ⟨rfl, rfl, rfl⟩
/-- R63: the codes on rsp_code. -/
theorem test_response_codes :
    see State.rspCode (exec .init (State.resetWith tc1 [])) = some (some 0) ∧
      see State.rspCode (exec .init running) = some (some 1) ∧
      see State.rspCode (exec .init (State.resetWith tc3a [])) = some (some 2) ∧
      see State.rspCode (exec .init { State.resetWith tc1 [] with platOk := false }) =
        some (some 3) := by decide
/-- R26: one STATUS bit at a time. -/
theorem test_status_bits :
    (({ State.reset with started := true } : State).status,
      ({ State.reset with fConfig := true } : State).status,
      ({ State.reset with fResource := true } : State).status,
      ({ State.reset with fNoBuf := true } : State).status,
      ({ State.reset with eRej := true } : State).status) =
      (0b00001, 0b00010, 0b00100, 0b01000, 0b10000) := by decide
/-- V-INIT-4: the configuration is checked before plat_ok. -/
theorem test_init_config_first :
    see (fun s => (s.status, s.rateEff, s.rsp))
      (exec .init { State.resetWith tc3a [] with platOk := false }) =
      some (0b00010, 0, some .configFault) := by decide
/-- V-SEL-1. -/
theorem test_select_switches :
    see (fun s => (s.cur, s.cursor, s.force, s.acc, s.rateEff))
      (exec (.select 1) { running with acc := 2 }) = some (1, 0, true, 2, 3) := by decide
/-- V-ENC-6: id = NUM_ANIMS. -/
theorem test_select_rejects :
    see (fun s => (s.cur, s.status, s.rsp)) (exec (.select 3) running) =
      some (0, 0b10001, some .rejected) := by decide
/-- V-ENC-12: RATE_EFF keeps its value. -/
theorem test_setrate_override :
    see (fun s => (s.ovr, s.rateEff, s.rsp)) (exec (.setrate 5) running) =
      some (5, 3, some .ok) := by decide
/-- V-RATE-2. -/
theorem test_setrate_zero :
    see (fun s => (s.ovr, s.rsp)) (exec (.setrate 0) { running with ovr := 5 }) =
      some (5, some .rejected) := by decide
/-- V-ICON-3. -/
theorem test_showicon_hides :
    see (fun s => s.en) (exec (.showicon 1 false) { running with en := 0b111 }) =
      some 0b101 := by decide
/-- V-ENC-20. -/
theorem test_showicon_three :
    see (fun s => (s.en, s.rsp)) (exec (.showicon 3 true) running) =
      some (0, some .rejected) := by decide
/-- V-UPD-4: CUR 1, CURSOR 2, ACC 1, RATE_EFF 2, OVR 5: the elapse shows frame 4, wraps the cursor
and loads OVR. -/
theorem test_update_elapse :
    see (fun s => (s.disp, s.cursor, s.acc, s.rateEff, s.force, s.ap))
      (exec .update { running with cur := 1, cursor := 2, acc := 1, rateEff := 2, ovr := 5 }) =
      some (4, 0, 0, 5, false, 1) := by decide
/-- V-UPD-2: a tick without an elapse. -/
theorem test_update_tick :
    see (fun s => (s.cursor, s.acc, s.rateEff, s.ap, s.rsp)) (exec .update running) =
      some (1, 1, 3, 2, none) := by decide
/-- V-ENC-27, V-ENC-28. -/
theorem test_setbuf_window :
    see (fun s => (s.scanBase, s.rsp)) (exec (.setbuf 0xC0) running) = some (0xC0, some .ok) ∧
      see (fun s => (s.scanBase, s.rsp)) (exec (.setbuf 0xC1) running) =
        some (0x40, some .rejected) := by decide
/-- Frame 1 byte 60 of TC1 is 0x7C; the copy moves on to CI = 61. -/
theorem test_copyb :
    see (fun s => (Memory.read s.dmem 0x7C, s.ci, s.ap))
      (exec .copyb { running with disp := 1, ap := 1, ci := 60 }) = some (0x7C, 61, 1) := by decide
/-- COPY_ORDER descending: CI = 63 copies byte 0 (0x40 of frame 1) and the overlay pass follows. -/
theorem test_copyb_last :
    see (fun s => (Memory.read s.dmem 0x40, s.ap, s.oi))
      (exec .copyb { running with cfg := { tc1 with copyOrder := Config.ascending.reverse },
                                  disp := 1, ap := 1, ci := 63, oi := 2 }) =
      some (0x40, 2, 0) := by decide
/-- S3: icon SLEEP (byte 60, mask 0x0F) shown on frame 0 (base 0x3C) gives 0x3F. -/
theorem test_ovlb_shows :
    see (fun s => (Memory.read s.dmem 0x7C, s.ap, s.rsp))
      (exec .ovlb { running with en := 0b100, ap := 2, oi := 2, rsp := none }) =
      some (0x3F, 0, some .ok) := by decide
/-- S3: hidden again, the bits under the mask are the sprite's: 0x3C. -/
theorem test_ovlb_restores :
    see (fun s => (Memory.read s.dmem 0x7C, s.ap))
      (exec .ovlb { running with dmem := [(0x7C, 0x3F)], ap := 2, oi := 2 }) =
      some (0x3C, 0) := by decide
/-- S4: scanline 2 sends the bytes at offsets 56, 40, 24, 8. -/
theorem test_shift3 :
    see (fun s => (s.out, s.ph)) (exec .shift3 scanning) = some ([.tx 0x38], 1) := by decide
theorem test_shift2 :
    see (fun s => (s.out, s.ph)) (exec .shift2 scanning) = some ([.tx 0x28], 2) := by decide
theorem test_shift1 :
    see (fun s => (s.out, s.ph)) (exec .shift1 scanning) = some ([.tx 0x18], 3) := by decide
theorem test_shift0 :
    see (fun s => (s.out, s.ph)) (exec .shift0 scanning) = some ([.tx 0x08], 4) := by decide
/-- R165: no buffer registered. -/
theorem test_shift_no_buffer :
    see (fun s => (s.out, s.ph, s.status)) (exec .shift3 { scanning with bufValid := false }) =
      some ([], 0, 0b01001) := by decide
/-- R136: with SCAN_SPAN = 4 the byte fetched moves by SI and SHIFT0 goes back to SHIFT3. -/
theorem test_shift_span :
    see (fun s => (s.out, s.ph, s.si))
      (exec .shift0 { scanning with cfg := { tc1 with scanSpan := 4 }, scanline := 1, si := 2,
                                    dmem := [(0x46, 0x06)] }) =
      some ([.tx 0x06], 0, 3) := by decide
/-- S5, the events of a cycle of scanline 2. -/
theorem test_oeoff :
    see (fun s => (s.out, s.oe, s.ph)) (exec .oeoff { scanning with oe := true }) =
      some ([.oe false], false, 5) := by decide
theorem test_lathi :
    see (fun s => (s.out, s.lat, s.ph)) (exec .lathi scanning) = some ([.lat true], true, 6) := by
  decide
theorem test_latwait :
    see (fun s => (s.out, s.ph)) (exec .latwait scanning) = some ([.delayUs 1], 7) := by decide
theorem test_latlo :
    see (fun s => (s.out, s.lat, s.ph)) (exec .latlo { scanning with lat := true }) =
      some ([.lat false], false, 8) := by decide
theorem test_rowsel :
    see (fun s => (s.out, s.rowA, s.rowB, s.ph)) (exec .rowsel scanning) =
      some ([.row false true], false, true, 9) := by decide
theorem test_oeon :
    see (fun s => (s.out, s.oe, s.ph)) (exec .oeon scanning) = some ([.oe true], true, 10) := by
  decide
/-- R133: S = 3 is followed by S = 0. -/
theorem test_adv :
    see (fun s => (s.out, s.scanline, s.ph)) (exec .adv { scanning with scanline := 3 }) =
      some ([], 0, 11) := by decide
theorem test_sleep :
    see (fun s => (s.out, s.ph)) (exec .sleep scanning) = some ([.sleepMs 5], 0) := by decide
/-- R135: OE_ON_MS = 2 of 5. -/
theorem test_sleep_dimmed :
    see (fun s => (s.out, s.oe)) (exec .sleep { scanning with cfg := { tc1 with oeOnMs := 2 },
                                                              oe := true }) =
      some ([.sleepMs 2, .oe false, .sleepMs 3], false) := by decide

/-! ## The step, the host's port, the bench and the placing of an instruction -/

/-- V-RST-1, V-RST-2: registers at reset values, DMEM kept. -/
theorem test_rst :
    see (fun s => (s.cursor, s.scanBase, s.status, Memory.read s.dmem 0x7C))
      (step { running with choices := [.rst] }) = some (0, 0, 0, 0x3C) := by decide
/-- A placed word runs as the first instruction after reset: SETBUF 0x40. -/
theorem test_withFetchWord :
    see (fun s => (s.scanBase, s.bufValid)) (step (State.reset.withFetchWord 20 0x60040)) =
      some (0x40, true) := by decide
/-- `HIDEICON SICK` is SHOWICON SICK, 0 (0x40001); `TICKS 2` is two UPDATEs. -/
theorem test_bench_lines :
    lineChoices (.hideIcon 1) = [.offer 0x40001, .port] ∧
      (lineChoices (.ticks 2)).take 3 = [.offer 0x50000, .port, .anim] ∧
      lineChoices (.scan 1) = List.replicate 12 .scan := ⟨rfl, rfl, rfl⟩

/-! ## Data that meet the hypotheses of the statements -/

theorem test_meets_ResetMeetsInvariant :
    tc1.wf = true ∧ Memory.wf tc1.dmemSize [(0, 0xEE), (255, 0xEE)] = true := by decide

theorem test_meets_ScanStepRunsSelectedOperation :
    running.started = true ∧ running.fNoBuf = false ∧ decode (.sseq running.ph) = .ok .shift3 := by
  decide

theorem test_meets_AnimStepRunsSelectedOperation :
    running.started = true ∧
      decode (.aseq ({ running with ap := 2 } : State).ap) = .ok .ovlb := by decide

theorem test_meets_PortStepRunsAcceptedCommand :
    let s : State := { running with cmd := some 0x20002 }
    s.ap = 0 ∧ s.cmd = some 0x20002 ∧ decode (.cmd 0x20002) = .ok (.select 2) := by decide

theorem test_meets_OfferedWordWaitsWhileBusy :
    let s : State := { running with ap := 1 }
    s.ap ≠ 0 ∧ s.cmd = none := by decide

theorem test_meets_SequencersHeldUntilStarted :
    State.reset.started = false ∧ ({ running with fNoBuf := true } : State).fNoBuf = true := by
  decide

theorem test_meets_EncodeInvertsDecode :
    decode (.cmd 0x2FF) = .error .opcode ∧ decode (.cmd 0x200FF) = .ok (.select 0xFF) := by decide

theorem test_meets_CommandMatchesItsTableRow :
    decode (.cmd 0x40007) = .ok (.showicon 3 true) ∧
      (∃ v, encode (.showicon 0 false) = .cmd v) ∧
      (0x40007#20).toNat &&& (tableRow (.showicon 0 false)).1 =
        (tableRow (.showicon 0 false)).2 :=
  ⟨by decide, ⟨_, rfl⟩, by decide⟩

/-- Both sides of every bound of R64, and such a word waiting at the open port. -/
theorem test_meets_ReservedWordsAreRejected :
    running.ap = 0 ∧ ({ running with cmd := some 0x20100 } : State).cmd = some 0x20100 ∧
      reservedWord 0x0FFFF = true ∧ reservedWord 0x10000 = false ∧ reservedWord 0x10001 = true ∧
      reservedWord 0x200FF = false ∧ reservedWord 0x20100 = true ∧ reservedWord 0x3FFFF = false ∧
      reservedWord 0x40007 = false ∧ reservedWord 0x40008 = true ∧ reservedWord 0x50001 = true ∧
      reservedWord 0x6FFFF = false ∧ reservedWord 0x70000 = true := by decide

/-- A window that ends at DMEM_SIZE and a valid catalog. -/
theorem test_meets_SetbufThenInitBoots : (State.booted tc1 [] 0xC0).isSome = true := by decide

/-- Both sides of the equivalence: TC1, and a hold of 0. -/
theorem test_meets_WellFormedMeansTableValues :
    tc1.wf = true ∧ { tc1 with latchHoldUs := 0 }.wf = false ∧ tc1.sheetSize = 10688 := by decide

/-- INIT's two faults, a SHIFT without a buffer and with one, and a rejected word (a second INIT). -/
theorem test_meets_EventsSetStatusBitAndCode :
    let s : State := State.resetWith tc3a []
    let p : State := { State.resetWith tc1 [] with platOk := false }
    (s.started = false ∧ s.fConfig = false ∧ s.fResource = false ∧ catalogValid s.cfg = false) ∧
      (p.started = false ∧ p.fConfig = false ∧ p.fResource = false ∧ catalogValid p.cfg = true ∧
        p.platOk = false) ∧
      s.bufValid = false ∧ scanning.bufValid = true ∧
      see (fun t => (t.status, t.rsp)) (exec .shift0 scanning) = some (0b00001, some .ok) ∧
      running.ap = 0 ∧ ({ running with cmd := some 0x10000 } : State).cmd = some 0x10000 ∧
      rejectCause 0x10000 running = true := by decide

/-- TC3g and TC3h are valid; TC3a, TC3b, TC3d, TC3e and TC3f are not. -/
theorem test_meets_CatalogValidMeansEveryEntry :
    tc1.sourceValues = true ∧ catalogValid { tc1 with cat := [⟨166, 1, 5⟩] } = true ∧
      catalogValid { tc1 with cat := [⟨0, 167, 5⟩] } = true ∧ catalogValid tc3a = false ∧
      catalogValid { tc1 with cat := [⟨0, 2, 0⟩] } = false ∧
      catalogValid { tc1 with cat := [⟨255, 255, 1⟩] } = false ∧
      catalogValid { tc1 with cat := [⟨167, 1, 1⟩] } = false ∧
      catalogValid { tc1 with cat := [⟨0, 168, 5⟩] } = false := by decide

/-- The four branches: started, a defective catalog, plat_ok = 0, and the start. -/
theorem test_meets_InitStartsOrFaults :
    tc1.cat[tc1.defaultAnim.toNat]? = some ⟨0, 2, 3⟩ ∧ running.started = true ∧
      tc3a.cat[tc3a.defaultAnim.toNat]? = some ⟨0, 2, 3⟩ ∧ catalogValid tc3a = false ∧
      (State.resetWith tc3a []).fConfig = false ∧ catalogValid tc1 = true ∧
      (State.resetWith tc1 []).platOk = true ∧
      ({ State.resetWith tc1 [] with platOk := false } : State).platOk = false := by decide

/-- The three branches at their bounds: id = NUM_ANIMS, id = CUR, id = NUM_ANIMS - 1. -/
theorem test_meets_SelectSwitchesAnimation :
    running.started = true ∧ running.cfg.cat.length ≤ (3#8).toNat ∧ 0#8 = running.cur ∧
      ¬ running.cfg.cat.length ≤ (2#8).toNat ∧ 2#8 ≠ running.cur := by decide

theorem test_meets_UpdateTicksOrElapses :
    running.cfg.wf = true ∧ running.engineOk ∧ running.started = true ∧
      ¬ (running.force = true ∨ running.rateEff.toNat ≤ running.acc.toNat + 1) ∧
      (let s : State := { running with acc := 2 }
       s.engineOk ∧ s.rateEff.toNat ≤ s.acc.toNat + 1) ∧
      State.reset.started = false :=
  ⟨by decide, ⟨by decide, by decide, _, rfl, by decide⟩, by decide, by decide,
    ⟨⟨by decide, by decide, _, rfl, by decide⟩, by decide⟩, by decide⟩

/-- CAT[2] of TC1 has length 1; both an elapse and a tick. -/
theorem test_meets_LengthOneNeverAdvances :
    let s : State := { running with cur := 2, cursor := 0, rateEff := 500, acc := 499 }
    s.cfg.wf = true ∧ s.started = true ∧ s.engineOk ∧
      s.cfg.cat[s.cur.toNat]? = some ⟨166, 1, 500⟩ ∧
      see (fun t => (t.ap, t.disp)) (exec .update s) = some (1, 166) :=
  ⟨by decide, by decide, ⟨by decide, by decide, _, rfl, by decide⟩, by decide, by decide⟩

/-- Each case of R164 at its bound, and the word next to it that is accepted. -/
theorem test_meets_CommandRejectedExactlyWhenCauseHolds :
    running.ap = 0 ∧ rejectCause 0x20100 running = true ∧ rejectCause 0x10000 running = true ∧
      rejectCause 0x50000 State.reset = true ∧ rejectCause 0x20003 running = true ∧
      rejectCause 0x20002 running = false ∧ rejectCause 0x30000 running = true ∧
      rejectCause 0x30001 running = false ∧ rejectCause 0x40007 running = true ∧
      rejectCause 0x40006 running = false ∧ rejectCause 0x600C1 running = true ∧
      rejectCause 0x600C0 running = false ∧ rejectCause 0x50000 running = false ∧
      rejectCause 0x10000 State.reset = false := by decide

/-- CI = 63 and CI = 62, DISP at its last frame. -/
theorem test_meets_CopybCopiesOneByte :
    let s : State := { running with disp := 166, ci := 63 }
    s.cfg.wf = true ∧ Memory.wf s.cfg.dmemSize s.dmem = true ∧ s.disp.toNat < 167 ∧
      s.ci = 63 ∧ ({ s with ci := 62 } : State).ci ≠ 63 := by decide

/-- OI = 2 and OI = 0, the icon shown and hidden. -/
theorem test_meets_OvlbAppliesOneIcon :
    let s : State := { running with disp := 166, oi := 2, en := 0b100 }
    s.cfg.wf = true ∧ Memory.wf s.cfg.dmemSize s.dmem = true ∧ s.disp.toNat < 167 ∧ s.oi ≠ 3 ∧
      s.en.getLsbD s.oi.toNat = true ∧ s.en.getLsbD 0 = false := by decide

/-- With a buffer whose window ends at DMEM_SIZE, and with none, SCAN_SPAN being 4. -/
theorem test_meets_ShiftSendsByteOrFaults :
    let s : State := { running with scanBase := 0xC0, scanline := 3 }
    s.cfg.scanSpan = 1 ∧ s.bufValid = true ∧ s.scanBase.toNat + 64 ≤ s.cfg.dmemSize ∧
      s.cfg.sourceValues = true ∧ State.reset.bufValid = false ∧
      see (fun t => (t.status, t.ph, t.out))
        (exec .shift2 { s with cfg := { tc1 with scanSpan := 4 }, bufValid := false }) =
        some (0b01001, 0, []) := by decide

/-- SCAN_SPAN = 4 with SI = 3 and SI = 2, and SCAN_SPAN = 2. -/
theorem test_meets_ShiftSpanGoesRound :
    let s : State := { running with cfg := { tc1 with scanSpan := 4 }, si := 3, scanBase := 0xC0 }
    s.cfg.sourceValues = true ∧ 2 ≤ s.cfg.scanSpan ∧ s.cfg.scanSpan ≤ 4 ∧ s.si.toNat < s.cfg.scanSpan ∧ s.bufValid = true ∧
      s.scanBase.toNat + 64 ≤ s.cfg.dmemSize ∧ s.si.toNat = s.cfg.scanSpan - 1 ∧
      ({ s with si := 2 } : State).si.toNat ≠ s.cfg.scanSpan - 1 := by decide

/-- The three branches: OE_ON_MS = 5, 0 and 4 of SCAN_PERIOD_MS = 5. -/
theorem test_meets_SleepWaitsScanPeriod :
    tc1.oeOnMs = tc1.scanPeriodMs ∧
      { tc1 with oeOnMs := 0 }.oeOnMs.toNat ≤ tc1.scanPeriodMs.toNat ∧
      { tc1 with oeOnMs := 4 }.oeOnMs.toNat ≤ tc1.scanPeriodMs.toNat := by decide

/-- The last cell; the cell after it is refused. -/
theorem test_meets_HostPortReadsAndWritesOneByte :
    Memory.wf running.cfg.dmemSize running.dmem = true ∧ (0xFF#16).toNat < running.cfg.dmemSize ∧
      see (fun s => s.dmem) (step { running with choices := [.hwrite 0x100 1] }) = none := by decide

/-! ### Whole-machine statements: states that meet the invariant and have a step -/

/-- ANIM with a copy in progress. -/
def copying : State :=
  { running with disp := 1, cursor := 0, ap := 1, ci := 60, rsp := none, choices := [.anim] }

/-- ANIM with the last overlay step to go, the sprite of frame 0 drawn, every icon hidden. -/
def overlaying : State := { running with acc := 1, ap := 2, oi := 2, rsp := none,
                                         choices := [.anim] }

/-- SCAN about to raise the latch, and about to light the rows. -/
def latching : State := { running with ph := 5, choices := [.scan] }
def lighting : State := { running with ph := 9, choices := [.scan] }

/-- After a CONFIG_FAULT. -/
def failed : State := { State.resetWith tc3a [] with fConfig := true, rsp := some .configFault,
                                                     choices := [.scan] }

theorem test_inv_states :
    BlockInv State.reset ∧ BlockInv running ∧ BlockInv copying ∧ BlockInv overlaying ∧
      BlockInv latching ∧ BlockInv lighting ∧ BlockInv failed :=
  ⟨invCheck_sound (by decide), invCheck_sound (by decide), invCheck_sound (by decide),
    invCheck_sound (by decide), invCheck_sound (by decide), invCheck_sound (by decide),
    invCheck_sound (by decide)⟩

/-- The hypotheses of StepKeepsConfiguration, StatusBitsAreSticky, TraceGrowsOnlyByScanner and
StepKeepsInvariant together: the invariant, a next state, no reset, a STATUS bit that is 1. -/
theorem test_meets_StepKeepsInvariant :
    BlockInv latching ∧ (∃ t, step latching = .next t) ∧ nextChoice latching ≠ .rst ∧
      latching.status.getLsbD 0 = true ∧
      see (fun t => t.out) (step latching) = some [.lat true] :=
  ⟨invCheck_sound (by decide), ⟨_, rfl⟩, by decide, by decide, by decide⟩

/-- The latch raised, and the rows lit. -/
theorem test_meets_LatchAndRowsChangeWhileBlanked :
    nextChoice latching ≠ .rst ∧ nextChoice lighting ≠ .rst ∧
      see (fun t => (t.lat, latching.lat, latching.oe)) (step latching) =
        some (true, false, false) ∧
      see (fun t => (t.oe, lighting.oe)) (step lighting) = some (true, false) := by decide

/-- A step of another agent than SCAN, for PinsWrittenOnlyByScanner and TraceGrowsOnlyByScanner. -/
theorem test_meets_PinsWrittenOnlyByScanner :
    nextChoice copying ≠ .scan ∧ nextChoice copying ≠ .rst ∧
      see (fun t => t.out) (step copying) = some copying.out := by decide

/-- A byte changed by ANIM, and one changed by the host. -/
theorem test_meets_DmemWrittenOnlyByItsWriters :
    see (fun t => Memory.read t.dmem 0x7C ≠ Memory.read copying.dmem 0x7C) (step copying) =
        some True ∧
      nextChoice { running with choices := [.hwrite 0x80 7] } = .hwrite (BitVec.ofNat 16 0x80) 7 ∧
      see (fun t => Memory.read t.dmem 0x80) (step { running with choices := [.hwrite 0x80 7] }) =
        some 7 := by
  refine ⟨?_, by decide, by decide⟩
  have h : (Memory.read (Memory.write copying.dmem 0x7C 0x7C) 0x7C ≠
      Memory.read copying.dmem 0x7C) = True := eq_true (by decide)
  exact congrArg some h

theorem test_meets_OverrideAndBufferHaveOneWriter :
    see (fun t => t.ovr) (exec .update running) = some running.ovr ∧
      (∀ ms, Instr.update ≠ .setrate ms) ∧ ∀ p, Instr.update ≠ .setbuf p :=
  ⟨by decide, nofun, nofun⟩

theorem test_meets_ScannerIgnoresEngineRegisters :
    Instr.shift3 ∈ scannerOps ∧ Instr.sleep ∈ scannerOps ∧ scannerOps.length = 12 := by decide

theorem test_meets_EngineIgnoresScannerRegisters :
    Instr.copyb ∈ engineOps ∧ Instr.ovlb ∈ engineOps := by decide

theorem test_meets_FatalInitLeavesPanelBlank :
    failed.fConfig = true ∧ nextChoice failed ≠ .rst ∧
      see (fun t => (t.oe, t.out)) (step failed) = some (false, []) := by decide

/-- A started block accepts UPDATE; a copy step and the last overlay step count down. -/
theorem test_meets_UpdateStepsCountDown :
    running.started = true ∧ see stepsLeft (exec .update running) = some 3 ∧ copying.ap ≠ 0 ∧
      nextChoice copying = .anim ∧ stepsLeft copying = 7 ∧
      see stepsLeft (step copying) = some 6 ∧ see stepsLeft (step overlaying) = some 0 := by decide

/-- Both clauses: n = 2 of RATE_EFF = 3 and n = 3, from ACC = 0. -/
theorem test_meets_TimerElapsesAtEffectiveRate :
    running.cfg.wf = true ∧ running.started = true ∧ running.engineOk ∧ running.force = false ∧
      running.acc.toNat + 2 < running.rateEff.toNat ∧
      running.acc.toNat + 3 = running.rateEff.toNat :=
  ⟨by decide, by decide, ⟨by decide, by decide, _, rfl, by decide⟩, by decide, by decide, by decide⟩

/-- CAT[1] of TC1 (offset 2, length 3, rate 2) just selected, and the same with OVR = 1: an elapse
(k = 0) and the UPDATE between two (k = 1) of rate 2, and k = 0 of rate 1. -/
theorem test_meets_ElapsesShowFramesInOrder :
    let s : State := { running with cur := 1, cursor := 0, force := true }
    s.cfg.wf = true ∧ s.started = true ∧ s.engineOk ∧
      s.cfg.cat[s.cur.toNat]? = some ⟨2, 3, 2⟩ ∧ s.cursor = 0 ∧ s.force = true ∧ s.ovr = 0 ∧
      1 < (2#16).toNat ∧ ({ s with ovr := 1 } : State).ovr ≠ 0 ∧ 0 < (1#16).toNat :=
  ⟨by decide, by decide, ⟨by decide, by decide, _, rfl, by decide⟩, by decide⟩

/-- The first UPDATEs of that animation, from the values of R102: frame 2 twice (rate 2), then
frame 3. -/
theorem test_afterUpdates :
    let s : State := { running with cur := 1, cursor := 0, force := true }
    (afterUpdates 2 s).map (fun t => (t.disp, t.cursor, t.acc, t.ap)) = some (2, 1, 1, 2) ∧
      (afterUpdates 3 s).map (fun t => (t.disp, t.cursor, t.acc, t.ap)) = some (3, 2, 0, 1) := by
  decide

/-- The three breaches: an address at DMEM_SIZE written, read, and a second word offered. -/
theorem test_meets_StepStopsOnlyOnHostBreach :
    step { running with choices := [.hwrite 0x100 1] } = .refused .hostAddressBeyondSize ∧
      step { running with choices := [.hread 0x100] } = .refused .hostAddressBeyondSize ∧
      step { running with cmd := some 0x50000, choices := [.offer 0x10000] } =
        .refused .hostChangesWaitingWord := ⟨rfl, rfl, rfl⟩

/-- After the loader with SCAN_SPAN = 1, and in its second round with SCAN_SPAN = 2, dimmed. -/
theorem test_meets_TraceIsConcatenationOfCycles :
    let s : State := { running with ph := 4, choices := [.scan],
                                    out := [.tx 1, .tx 2, .tx 3, .tx 4] }
    let r : State := { running with cfg := { tc1 with scanSpan := 2, oeOnMs := 2 }, ph := 1, si := 1,
                                    choices := [.scan],
                                    out := [.tx 1, .tx 2, .tx 3, .tx 4, .tx 5] }
    (s.cfg.wf = true ∧ s.ph.toNat < 12 ∧ s.si.toNat < s.cfg.scanSpan ∧ s.traceOk ∧
      see (fun t => t.out.length) (step s) = some 5) ∧
    r.cfg.wf = true ∧ r.ph.toNat < 12 ∧ r.si.toNat < r.cfg.scanSpan ∧ r.traceOk ∧
      see (fun t => t.out.length) (step r) = some 6 :=
  ⟨⟨by decide, by decide, by decide, ⟨0, by decide, by decide, by decide⟩, by decide⟩,
    by decide, by decide, by decide, ⟨0, by decide, by decide, by decide⟩, by decide⟩

/-- SCAN_SPAN = 1 at full brightness, and SCAN_SPAN = 4 dimmed. -/
theorem test_meets_ScanCycleAppendsItsEvents :
    scanning.cfg.wf = true ∧ { tc1 with scanSpan := 4, oeOnMs := 2 }.wf = true ∧
      scanning.started = true ∧ scanning.fNoBuf = false ∧ scanning.bufValid = true ∧
      scanning.scanBase.toNat + 64 ≤ scanning.cfg.dmemSize ∧ scanning.ph = 0 ∧
      scanning.si = 0 := by decide

/-- The four forms: full brightness with SCAN_SPAN 1 and 4, unlit, and dimmed. -/
theorem test_meets_CycleEventsWrittenOut :
    (tc1.scanSpan = 1 ∧ tc1.oeOnMs = tc1.scanPeriodMs) ∧
      ({ tc1 with scanSpan := 4 }.scanSpan = 4 ∧
        { tc1 with scanSpan := 4 }.oeOnMs = tc1.scanPeriodMs) ∧
      ({ tc1 with oeOnMs := 0 }.oeOnMs = 0 ∧ tc1.scanPeriodMs ≠ 0) ∧
      0 < { tc1 with oeOnMs := 1 }.oeOnMs.toNat ∧
      { tc1 with oeOnMs := 4 }.oeOnMs.toNat < tc1.scanPeriodMs.toNat := by decide

/-- A chain of four bytes, as SCAN_SPAN = 1 has, fed four. -/
theorem test_meets_PanelShowsLatchedScanline :
    let p : Panel := { chain := [0, 0, 0, 0], latched := [], oe := false, row := (false, false) }
    ([1, 2, 3, 4] : List Byte).length = p.chain.length := by decide

/-- U23: the two orders of the bits of 0x80 on the wire. -/
theorem test_wire :
    wire tc1 [.tx 0x80, .lat true] = [true, false, false, false, false, false, false, false] ∧
      wire { tc1 with txBitOrder := .lsbFirst } [.tx 0x80] =
        [false, false, false, false, false, false, false, true] := by decide

/-- The sprite of frame 0 is drawn in `overlaying`, and icons 0 and 1 are hidden. -/
theorem overlaying_frameOk : overlaying.frameOk := by
  refine ⟨fun h => absurd h (by decide), fun _ => ?_, fun _ x hx i hi => ?_⟩
  · unfold State.spriteDrawn
    decide
  · match x, hx, hi with
    | 0, _, hi => cases hi; decide
    | 1, _, hi => cases hi; decide
    | 2, hx, _ => exact absurd hx (by decide)
    | 3, hx, _ => exact absurd hx (by decide)

/-- An elapse begins with nothing drawn. -/
theorem copying_frameOk : ({ copying with ci := 0 } : State).frameOk :=
  ⟨fun _ i hi => absurd hi (Nat.not_lt_zero i), fun h => absurd rfl h,
    fun h => absurd h (by decide)⟩

theorem test_meets_StepKeepsFrameDrawn :
    BlockInv overlaying ∧ overlaying.frameOk ∧ leavesWindow overlaying.cfg (nextChoice overlaying) ∧
      leavesWindow running.cfg (.hwrite 0x80 1) ∧
      see (fun t => t.ap) (step overlaying) = some 0 :=
  ⟨invCheck_sound (by decide), overlaying_frameOk, trivial, by unfold leavesWindow; decide,
    by decide⟩

theorem test_meets_OverlayHoldsAtResponse :
    overlaying.frameOk ∧ overlaying.ap = 2 ∧ overlaying.oi = 2 ∧ nextChoice overlaying = .anim ∧
      see (fun t => t.rsp) (step overlaying) = some (some .ok) :=
  ⟨overlaying_frameOk, by decide⟩

end Sys2Proof.Tests
end

section
/-!
What `Config.wf` says (spec/00_scope.md R4, R5), one equivalence for each of its parts, and O1,
which puts them together.
-/

namespace Sys2Proof

/-! ## The parameters with one value -/

theorem Config.sourceValues_iff {c : Config} :
    c.sourceValues = true ↔
      c.frameSize = 64 ∧ c.numOfFrames = 167 ∧ c.sheetSize = 10688 ∧ c.rows = 16 ∧ c.cols = 32 ∧
        c.numScanlines = 4 ∧ c.rowsPerGroup = 4 ∧ c.bytesPerScanline = 4 ∧ c.groupStride = 16 ∧
        c.scanlineStride = 4 ∧ c.tickMs = 1 ∧ c.lengthMin = 1 ∧ c.lengthMax = 255 ∧
        c.addrW = 16 := by
  constructor
  · intro h
    have hsheet := Config.sheetSize_eq h
    simp only [Config.sourceValues, Bool.and_eq_true, decide_eq_true_eq] at h
    tauto
  · intro h
    simp only [Config.sourceValues, Bool.and_eq_true, decide_eq_true_eq]
    tauto

/-! ## The catalog's size and the window -/

/-- R4's lower bound on NUM_ANIMS follows from DEFAULT_ANIM being below it. -/
theorem Config.catSizeOk_iff {c : Config} :
    c.catSizeOk = true ↔
      1 ≤ c.cat.length ∧ c.cat.length ≤ 256 ∧ c.defaultAnim.toNat < c.cat.length := by
  simp only [Config.catSizeOk, Config.numAnims, Bool.and_eq_true, decide_eq_true_eq]
  exact ⟨fun ⟨hle, hlt⟩ => ⟨Nat.one_le_of_lt hlt, hle, hlt⟩, And.right⟩

theorem Config.windowOk_iff {c : Config} (hs : c.sourceValues = true) :
    c.windowOk = true ↔ c.animFbBase + 64 ≤ c.dmemSize ∧ c.dmemSize ≤ 65536 := by
  obtain ⟨hframe, -, -, -, -, -, -, haddr⟩ := Config.sourceValues_eq hs
  simp only [Config.windowOk, Config.addrSpace, hframe, haddr, Bool.and_eq_true,
    decide_eq_true_eq, Nat.reducePow]

/-! ## The icons -/

theorem Icon.wf_iff {n : Nat} {x : Icon} : x.wf n = true ↔ x.byte < n ∧ x.mask ≠ 0 := by
  simp only [Icon.wf, Bool.and_eq_true, decide_eq_true_eq]

theorem Icon.compatible_iff {x y : Icon} :
    x.compatible y = true ↔ (x.byte = y.byte → x.mask &&& y.mask = 0) := by
  simp only [Icon.compatible, Bool.or_eq_true, decide_eq_true_eq, imp_iff_not_or, ne_eq]

theorem Config.iconsOk_iff {c : Config} (hs : c.sourceValues = true) :
    c.iconsOk = true ↔
      (∀ x ∈ [c.poo, c.sick, c.sleep], x.byte < 64 ∧ x.mask ≠ 0) ∧
        (c.poo.byte = c.sick.byte → c.poo.mask &&& c.sick.mask = 0) ∧
        (c.poo.byte = c.sleep.byte → c.poo.mask &&& c.sleep.mask = 0) ∧
        (c.sick.byte = c.sleep.byte → c.sick.mask &&& c.sleep.mask = 0) := by
  simp only [Config.iconsOk, (Config.sourceValues_eq hs).1, Bool.and_eq_true, Icon.wf_iff,
    Icon.compatible_iff, List.forall_mem_cons, List.not_mem_nil, IsEmpty.forall_iff,
    implies_true, true_and, and_assoc]

/-! ## The row-select map -/

/-- The four codes are the values of `code` at the four scanlines, in order. -/
theorem RowselMap.codes_eq_ofFn (m : RowselMap) :
    [m.code0, m.code1, m.code2, m.code3] = List.ofFn (m.code ∘ BitVec.ofFin) := rfl

theorem RowselMap.injective_iff {m : RowselMap} :
    m.injective = true ↔ Function.Injective m.code := by
  have hbij : Function.Bijective (BitVec.ofFin (w := 2)) :=
    ⟨fun _ _ => congrArg BitVec.toFin, fun S => ⟨S.toFin, rfl⟩⟩
  rw [RowselMap.injective, decide_eq_true_eq, RowselMap.codes_eq_ofFn, List.nodup_ofFn,
    Function.Injective.of_comp_iff' _ hbij]

/-! ## Timing -/

theorem Config.timingOk_iff {c : Config} :
    c.timingOk = true ↔
      1 ≤ c.scanSpan ∧ c.scanSpan ≤ 4 ∧ c.oeOnMs.toNat ≤ c.scanPeriodMs.toNat ∧
        1 ≤ c.scanPeriodMs.toNat ∧ 1 ≤ c.latchHoldUs.toNat := by
  simp only [Config.timingOk, Bool.and_eq_true, decide_eq_true_eq, and_assoc, BitVec.le_def,
    BitVec.ofNat_eq_ofNat, BitVec.toNat_ofNat, Nat.reducePow, Nat.reduceMod]

/-! ## The copy order -/

theorem Config.mem_ascending (j : BitVec 6) : j ∈ Config.ascending :=
  List.mem_map.2 ⟨j.toNat, List.mem_range.2 j.isLt,
    (BitVec.ofNat_toNat 6 j).trans (BitVec.setWidth_eq j)⟩

theorem Config.nodup_ascending : Config.ascending.Nodup := by decide

/-- Of 64 byte numbers none stands twice exactly when every one stands: either way the list is a
permutation of the ascending order. -/
theorem nodup_iff_forall_mem_of_length {l : List (BitVec 6)} (hlen : l.length = 64) :
    l.Nodup ↔ ∀ j, j ∈ l := by
  have hasc : l.length = Config.ascending.length := hlen
  constructor
  · intro hnodup j
    have hsub : l.Subperm Config.ascending :=
      hnodup.subperm fun i _ => Config.mem_ascending i
    exact (hsub.perm_of_length_le hasc.ge).mem_iff.2 (Config.mem_ascending j)
  · intro hall
    have hsub : Config.ascending.Subperm l := Config.nodup_ascending.subperm fun j _ => hall j
    exact (hsub.perm_of_length_le hasc.le).nodup Config.nodup_ascending

theorem Config.copyOrderOk_iff {c : Config} (hs : c.sourceValues = true) :
    c.copyOrderOk = true ↔ c.copyOrder.length = 64 ∧ ∀ j : BitVec 6, j ∈ c.copyOrder := by
  have hbelow : ∀ j ∈ c.copyOrder, j.toNat < 64 := fun j _ => j.isLt
  simp only [Config.copyOrderOk, (Config.sourceValues_eq hs).1, Bool.and_eq_true,
    List.all_eq_true, decide_eq_true_eq, and_iff_left hbelow]
  exact and_congr_right nodup_iff_forall_mem_of_length

/-! ## The whole configuration -/

/-- Settles O1: `Config.wf` part by part. The window, the icons and the copy order are read with the
frame size and address width that the first part fixes. -/
theorem wellFormedMeansTableValues : Obligations.WellFormedMeansTableValues := by
  intro c
  rw [← Config.sourceValues_iff]
  simp only [Config.wf, Bool.and_eq_true, and_assoc]
  refine and_congr_right fun hs => ?_
  rw [Config.catSizeOk_iff, Config.windowOk_iff hs, Config.iconsOk_iff hs,
    RowselMap.injective_iff, Config.timingOk_iff, Config.copyOrderOk_iff hs]
  simp only [and_assoc, Function.Injective]

end Sys2Proof
end

section
/-!
The state after reset, the STATUS word and the registers with one writer (spec/10_state.md R16, R23
to R26, R31): what reset leaves, and which agent's step may change what.
-/

namespace Sys2Proof.Machine

/-! ## The state after reset -/

theorem resetWith_status (c : Config) (m : List Host.Cell) : (State.resetWith c m).status = 0 := by
  simp [State.status, State.resetWith]

/-- Settles O2: each register's value stands in the definition of the state after reset, and the
five bits of STATUS are among them. -/
theorem resetLeavesTableValues : Obligations.ResetLeavesTableValues :=
  fun c m => ⟨rfl, rfl, rfl, rfl, rfl, rfl, rfl, rfl, rfl, rfl, rfl, rfl, rfl, rfl, rfl, rfl, rfl,
    rfl, rfl, rfl, resetWith_status c m, rfl, rfl⟩

theorem resetWith_scannerAtRest (c : Config) (m : List Host.Cell) :
    (State.resetWith c m).scannerAtRest :=
  ⟨rfl, rfl, rfl, rfl, rfl, rfl, rfl, rfl⟩

/-- Settles O3: after reset nothing is started, no buffer is registered and no fault is raised, so
what is left of the invariant is that index 0 is a legal frame and a legal SI. -/
theorem resetMeetsInvariant : Obligations.ResetMeetsInvariant := by
  intro c m hc hm
  obtain ⟨⟨hspan, -⟩, -⟩ := Config.wf_timing hc
  have hframes : 0 < c.numOfFrames := by rw [Config.wf_numOfFrames hc]; decide
  exact
    { cfgWf := hc
      memWf := hm
      phLegal := Nat.succ_pos 11
      apLegal := (by decide : (0 : BitVec 2) ≠ 3)
      oiLegal := (by decide : (0 : BitVec 2) ≠ 3)
      siLegal := hspan
      dispLegal := hframes
      window := nofun
      engine := nofun
      busyStarted := fun hap => absurd rfl hap
      oneOutcome := ⟨nofun, nofun, nofun⟩
      noBufStarted := nofun
      resting := fun _ => resetWith_scannerAtRest c m
      beforeInit := fun _ => ⟨rfl, rfl⟩
      pins := rfl }

/-! ## The bits of STATUS -/

/-- Five flags put together as in `State.status`, the first one lowest. -/
theorem ofBool_append_getLsbD (b₀ b₁ b₂ b₃ b₄ : Bool) :
    let w : BitVec 5 := BitVec.ofBool b₄ ++ BitVec.ofBool b₃ ++ BitVec.ofBool b₂ ++
      BitVec.ofBool b₁ ++ BitVec.ofBool b₀
    w.getLsbD 0 = b₀ ∧ w.getLsbD 1 = b₁ ∧ w.getLsbD 2 = b₂ ∧ w.getLsbD 3 = b₃ ∧
      w.getLsbD 4 = b₄ := by
  revert b₀ b₁ b₂ b₃ b₄
  decide

/-- Settles O36. -/
theorem statusWordHasItsBits : Obligations.StatusWordHasItsBits :=
  fun s => ofBool_append_getLsbD s.started s.fConfig s.fResource s.fNoBuf s.eRej

/-- No STATUS bit that is 1 in `s` is 0 in `t`. -/
def StatusKept (s t : State) : Prop :=
  ∀ k, k < 5 → s.status.getLsbD k = true → t.status.getLsbD k = true

/-- STATUS is kept when each of its five bits is. -/
theorem statusKept_of_bits {s t : State} (hstarted : s.started = true → t.started = true)
    (hconfig : s.fConfig = true → t.fConfig = true)
    (hresource : s.fResource = true → t.fResource = true)
    (hnobuf : s.fNoBuf = true → t.fNoBuf = true) (hrej : s.eRej = true → t.eRej = true) :
    StatusKept s t := by
  intro k hk
  obtain ⟨hs0, hs1, hs2, hs3, hs4⟩ := statusWordHasItsBits s
  obtain ⟨ht0, ht1, ht2, ht3, ht4⟩ := statusWordHasItsBits t
  match k, hk with
  | 0, _ => rwa [hs0, ht0]
  | 1, _ => rwa [hs1, ht1]
  | 2, _ => rwa [hs2, ht2]
  | 3, _ => rwa [hs3, ht3]
  | 4, _ => rwa [hs4, ht4]

theorem statusKept_of_eq {s t : State} (h : t.status = s.status) : StatusKept s t :=
  fun _ _ hbit => h ▸ hbit

theorem StatusKept.trans {s t u : State} (hst : StatusKept s t) (htu : StatusKept t u) :
    StatusKept s u :=
  fun k hk hbit => htu k hk (hst k hk hbit)

theorem SameScanner.trans {s t u : State} (hst : SameScanner s t) (htu : SameScanner t u) :
    SameScanner s u := by
  simp_all only [SameScanner, and_self]

theorem SameScanner.fNoBuf_eq {s t : State} (h : SameScanner s t) : t.fNoBuf = s.fNoBuf := by
  obtain ⟨-, -, -, -, -, -, -, -, hnobuf⟩ := h
  exact hnobuf

/-! ## What a step of each agent keeps -/

theorem command_keeps {w : CmdWord} {i : Instr} {s t : State} (hd : decode (.cmd w) = .ok i)
    (h : exec i s = .next t) : StatusKept s t ∧ SameScanner s t := by
  obtain ⟨hscan, -, -, hstarted, hconfig, hresource, hrej⟩ := command_frame hd h
  exact ⟨statusKept_of_bits hstarted hconfig hresource (hscan.fNoBuf_eq ▸ id) hrej, hscan⟩

theorem engine_keeps {ap : BitVec 2} {i : Instr} {s t : State} (hd : decode (.aseq ap) = .ok i)
    (h : exec i s = .next t) : StatusKept s t ∧ SameScanner s t := by
  obtain ⟨hscan, hstatus, -⟩ := engine_frame hd h
  exact ⟨statusKept_of_eq hstatus, hscan⟩

theorem scanner_keeps {ph : BitVec 4} {i : Instr} {s t : State} (hd : decode (.sseq ph) = .ok i)
    (h : exec i s = .next t) : StatusKept s t := by
  obtain ⟨⟨hstarted, hconfig, hresource, hrej, hnobuf⟩, -⟩ := scanner_frame hd h
  exact statusKept_of_bits (hstarted ▸ id) (hconfig ▸ id) (hresource ▸ id) hnobuf (hrej ▸ id)

theorem reject_keeps (s : State) : StatusKept s (reject s) ∧ SameScanner s (reject s) :=
  ⟨statusKept_of_bits id id id id fun _ => rfl, by simp [SameScanner]⟩

theorem consumeChoice_keeps (s : State) :
    StatusKept s (consumeChoice s) ∧ SameScanner s (consumeChoice s) :=
  ⟨statusKept_of_eq (by simp [State.status]), by simp [SameScanner]⟩

/-- A step other than reset clears no STATUS bit, and one that is not SCAN's leaves the scanner as
it was (R25, R26). The ports of the host and of the environment are no part of either, so taking a
word from the port, and each step of HOSTMEM or of the inputs, keeps what taking the choice did. -/
theorem step_keeps {s t : State} (h : step s = .next t) (hrst : nextChoice s ≠ .rst) :
    StatusKept s t ∧ (nextChoice s ≠ .scan → SameScanner s t) := by
  obtain ⟨hstatus, hscanner⟩ := consumeChoice_keeps s
  rcases step_next h with ⟨hn, hscan⟩ | ⟨-, hanim⟩ | ⟨-, hport⟩ | ⟨_, _, -, -, rfl⟩ |
    ⟨_, -, -, rfl⟩ | ⟨_, -, -, rfl⟩ | ⟨_, -, rfl⟩ | ⟨_, -, rfl⟩ | ⟨hn, -⟩
  · refine ⟨?_, fun hne => absurd hn hne⟩
    rcases hscan with ⟨-, i, hd, hx⟩ | ⟨-, rfl⟩
    · exact hstatus.trans (scanner_keeps hd hx)
    · exact hstatus
  · rcases hanim with ⟨-, i, hd, hx⟩ | ⟨-, rfl⟩
    · obtain ⟨hst, hsc⟩ := engine_keeps hd hx
      exact ⟨hstatus.trans hst, fun _ => hscanner.trans hsc⟩
    · exact ⟨hstatus, fun _ => hscanner⟩
  · rcases hport with ⟨-, w, -, ⟨i, hd, hx⟩ | ⟨-, rfl⟩⟩ | ⟨-, rfl⟩
    · obtain ⟨hst, hsc⟩ := command_keeps hd hx
      exact ⟨hstatus.trans hst, fun _ => hscanner.trans hsc⟩
    · obtain ⟨hst, hsc⟩ := reject_keeps { consumeChoice s with cmd := none }
      exact ⟨hstatus.trans hst, fun _ => hscanner.trans hsc⟩
    · exact ⟨hstatus, fun _ => hscanner⟩
  iterate 5 exact ⟨hstatus, fun _ => hscanner⟩
  exact absurd hn hrst

/-- Settles O39. -/
theorem statusBitsAreSticky : Obligations.StatusBitsAreSticky :=
  fun _ _ h hrst => (step_keeps h hrst).1

/-- Settles O40: the pins are registers of the scanner. -/
theorem pinsWrittenOnlyByScanner : Obligations.PinsWrittenOnlyByScanner := by
  intro s t h hscan hrst
  obtain ⟨-, -, -, hoe, hlat, hrowA, hrowB, -⟩ := (step_keeps h hrst).2 hscan
  exact ⟨hoe, hlat, hrowA, hrowB⟩

/-! ## OVR and the buffer registers -/

/-- OVR, SCAN_BASE and BUF_VALID are the same. -/
def SameOverrideAndBuffer (s t : State) : Prop :=
  t.ovr = s.ovr ∧ t.scanBase = s.scanBase ∧ t.bufValid = s.bufValid

theorem scanner_sameOverrideAndBuffer {ph : BitVec 4} {i : Instr} {s t : State}
    (hd : decode (.sseq ph) = .ok i) (h : exec i s = .next t) : SameOverrideAndBuffer s t := by
  obtain ⟨-, -, -, -, -, -, hovr, -, -, -, -, -, -, hbase, hvalid⟩ := scanner_frame hd h
  exact ⟨hovr, hbase, hvalid⟩

theorem engine_sameOverrideAndBuffer {ap : BitVec 2} {i : Instr} {s t : State}
    (hd : decode (.aseq ap) = .ok i) (h : exec i s = .next t) : SameOverrideAndBuffer s t := by
  rcases decodeAseq_ok hd with ⟨-, rfl⟩ | ⟨-, rfl⟩
  · obtain ⟨-, -, rfl⟩ := execCopyb_next h
    unfold afterCopy
    split <;> exact ⟨rfl, rfl, rfl⟩
  · obtain ⟨_, _, -, -, -, rfl⟩ := execOvlb_next h
    unfold afterOverlay
    split <;> exact ⟨rfl, rfl, rfl⟩

/-- SELECT is rejected, or finds the animation current already, or switches to it (R83). -/
theorem execSelect_next {id : BitVec 8} {s t : State} (h : execSelect id s = .next t) :
    ((s.started = false ∨ s.cfg.numAnims ≤ id.toNat) ∧ t = reject s) ∨
    (s.started = true ∧ id.toNat < s.cfg.numAnims ∧ id = s.cur ∧ t = respond .ok s) ∨
    (s.started = true ∧ id.toNat < s.cfg.numAnims ∧ id ≠ s.cur ∧
      t = respond .ok (switchTo id s)) := by
  rcases whenStarted_next h with ⟨hs, h⟩ | ⟨hs, ht⟩
  · split_ifs at h with hlt hcur
    · exact .inr (.inl ⟨hs, hlt, hcur, next_eq h⟩)
    · exact .inr (.inr ⟨hs, hlt, hcur, next_eq h⟩)
    · exact .inl ⟨.inr (Nat.le_of_not_lt hlt), next_eq h⟩
  · exact .inl ⟨.inl hs, ht⟩

/-- SETRATE is rejected, or writes OVR (R84). -/
theorem execSetrate_next {ms : BitVec 16} {s t : State} (h : execSetrate ms s = .next t) :
    ((s.started = false ∨ ms = 0) ∧ t = reject s) ∨
    (s.started = true ∧ ms ≠ 0 ∧ t = respond .ok { s with ovr := ms }) := by
  rcases whenStarted_next h with ⟨hs, h⟩ | ⟨hs, ht⟩
  · split_ifs at h with hms
    · exact .inl ⟨.inr hms, next_eq h⟩
    · exact .inr ⟨hs, hms, next_eq h⟩
  · exact .inl ⟨.inl hs, ht⟩

/-- SHOWICON is rejected, or writes one flag of EN (R85). -/
theorem execShowicon_next {icon : BitVec 2} {b : Bool} {s t : State}
    (h : execShowicon icon b s = .next t) :
    ((s.started = false ∨ icon = 3) ∧ t = reject s) ∨
    (s.started = true ∧ icon ≠ 3 ∧ t = respond .ok { s with en := setIcon s.en icon b }) := by
  rcases whenStarted_next h with ⟨hs, h⟩ | ⟨hs, ht⟩
  · split_ifs at h with hicon
    · exact .inl ⟨.inr hicon, next_eq h⟩
    · exact .inr ⟨hs, hicon, next_eq h⟩
  · exact .inl ⟨.inl hs, ht⟩

/-- SETBUF is rejected, or registers the buffer (R150). -/
theorem execSetbuf_next {ptr : Addr} {s t : State} (h : execSetbuf ptr s = .next t) :
    (windowInDmem s.cfg ptr = false ∧ t = reject s) ∨
    (windowInDmem s.cfg ptr = true ∧
      t = respond .ok { s with scanBase := ptr, bufValid := true }) := by
  unfold execSetbuf at h
  split at h
  · exact .inr ⟨‹_›, next_eq h⟩
  · exact .inl ⟨Bool.eq_false_of_not_eq_true ‹_›, next_eq h⟩

/-- An operation other than SETRATE and SETBUF leaves OVR and the buffer registers alone. -/
theorem exec_sameOverrideAndBuffer {i : Instr} {s t : State} (h : exec i s = .next t)
    (hrate : ∀ ms, i ≠ .setrate ms) (hbuf : ∀ p, i ≠ .setbuf p) : SameOverrideAndBuffer s t := by
  cases i with
  | init =>
    rcases execInit_next h with ⟨-, rfl⟩ | ⟨-, -, rfl⟩ | ⟨-, -, -, rfl⟩ | ⟨-, -, -, e, -, rfl⟩
    all_goals exact ⟨rfl, rfl, rfl⟩
  | select id =>
    rcases execSelect_next h with ⟨-, rfl⟩ | ⟨-, -, -, rfl⟩ | ⟨-, -, -, rfl⟩
    all_goals exact ⟨rfl, rfl, rfl⟩
  | setrate ms => exact absurd rfl (hrate ms)
  | showicon icon b =>
    rcases execShowicon_next h with ⟨-, rfl⟩ | ⟨-, -, rfl⟩
    all_goals exact ⟨rfl, rfl, rfl⟩
  | update =>
    rcases execUpdate_next h with ⟨-, rfl⟩ | ⟨-, e, -, ⟨-, -, rfl⟩ | ⟨-, rfl⟩⟩
    all_goals exact ⟨rfl, rfl, rfl⟩
  | setbuf p => exact absurd rfl (hbuf p)
  | copyb => exact engine_sameOverrideAndBuffer (ap := 1) rfl h
  | ovlb => exact engine_sameOverrideAndBuffer (ap := 2) rfl h
  | shift3 => exact scanner_sameOverrideAndBuffer (ph := 0) rfl h
  | shift2 => exact scanner_sameOverrideAndBuffer (ph := 1) rfl h
  | shift1 => exact scanner_sameOverrideAndBuffer (ph := 2) rfl h
  | shift0 => exact scanner_sameOverrideAndBuffer (ph := 3) rfl h
  | oeoff => exact scanner_sameOverrideAndBuffer (ph := 4) rfl h
  | lathi => exact scanner_sameOverrideAndBuffer (ph := 5) rfl h
  | latwait => exact scanner_sameOverrideAndBuffer (ph := 6) rfl h
  | latlo => exact scanner_sameOverrideAndBuffer (ph := 7) rfl h
  | rowsel => exact scanner_sameOverrideAndBuffer (ph := 8) rfl h
  | oeon => exact scanner_sameOverrideAndBuffer (ph := 9) rfl h
  | adv => exact scanner_sameOverrideAndBuffer (ph := 10) rfl h
  | sleep => exact scanner_sameOverrideAndBuffer (ph := 11) rfl h

theorem setrate_keeps_buffer {ms : BitVec 16} {s t : State} (h : exec (.setrate ms) s = .next t) :
    t.scanBase = s.scanBase ∧ t.bufValid = s.bufValid := by
  rcases execSetrate_next h with ⟨-, rfl⟩ | ⟨-, -, rfl⟩
  all_goals exact ⟨rfl, rfl⟩

theorem setbuf_keeps_override {p : Addr} {s t : State} (h : exec (.setbuf p) s = .next t) :
    t.ovr = s.ovr := by
  rcases execSetbuf_next h with ⟨-, rfl⟩ | ⟨-, rfl⟩
  all_goals rfl

/-- Settles O43: SETRATE keeps the buffer, SETBUF keeps OVR, every other operation keeps both. -/
theorem overrideAndBufferHaveOneWriter : Obligations.OverrideAndBufferHaveOneWriter := by
  intro s t i h
  by_cases hrate : ∃ ms, i = .setrate ms
  · obtain ⟨ms, rfl⟩ := hrate
    exact ⟨fun hne => absurd rfl (hne ms), fun _ => setrate_keeps_buffer h⟩
  by_cases hbuf : ∃ p, i = .setbuf p
  · obtain ⟨p, rfl⟩ := hbuf
    exact ⟨fun _ => setbuf_keeps_override h, fun hne => absurd rfl (hne p)⟩
  obtain ⟨hovr, hregs⟩ := exec_sameOverrideAndBuffer h (not_exists.1 hrate) (not_exists.1 hbuf)
  exact ⟨fun _ => hovr, fun _ => hregs⟩

end Sys2Proof.Machine
end

section
/-!
The memory rules (spec/20_memory.md R47 to R55): what the host's port does with one byte of DMEM,
and who else writes DMEM.
-/

namespace Sys2Proof.Machine

/-! ## The host's port -/

/-- HWRITE below DMEM_SIZE (R47, R49). -/
theorem hostWrite_of_lt {s : State} {a : Addr} (v : Byte) (ha : a.toNat < s.cfg.dmemSize) :
    hostWrite a v s = .next { s with dmem := Memory.write s.dmem a.toNat v } := by
  rw [hostWrite, dmemWrite_of_lt ha]

/-- HREAD below DMEM_SIZE (R47, R49). -/
theorem hostRead_of_lt {s : State} {a : Addr} (ha : a.toNat < s.cfg.dmemSize) :
    hostRead a s = .next { s with hRdata := Memory.read s.dmem a.toNat } := by
  rw [hostRead, dmemRead_of_lt ha]

/-- Settles O34: a step on a listed choice of the host is that access of its port, taken after the
choice has left the list. -/
theorem hostPortReadsAndWritesOneByte : Obligations.HostPortReadsAndWritesOneByte := by
  intro s a v cs hwf ha
  have hacc : a.toNat < ({ s with choices := cs } : State).cfg.dmemSize := ha
  refine ⟨⟨Memory.write s.dmem a.toNat v, ?_, Memory.wf_read_write a.toNat v hwf⟩, ?_⟩
  · exact hostWrite_of_lt v hacc
  · exact hostRead_of_lt hacc

/-! ## The writers of DMEM -/

@[simp] theorem afterCopy_dmem (s : State) : (afterCopy s).dmem = s.dmem := by
  unfold afterCopy
  split <;> rfl

@[simp] theorem afterOverlay_dmem (s : State) : (afterOverlay s).dmem = s.dmem := by
  unfold afterOverlay
  split <;> rfl

/-- A micro-step of the frame-copy sequencer writes one byte, in the frame buffer (R55). -/
theorem engine_writes_frameBuffer {ap : BitVec 2} {i : Instr} {s t : State} (hwf : s.cfg.wf = true)
    (hd : decode (.aseq ap) = .ok i) (h : exec i s = .next t) :
    ∃ j v, j < 64 ∧ t.dmem = Memory.write s.dmem (fbAddr s j) v := by
  rcases decodeAseq_ok hd with ⟨-, rfl⟩ | ⟨-, rfl⟩
  · obtain ⟨-, -, rfl⟩ := execCopyb_next h
    exact ⟨(copyIndex s).toNat, _, (copyIndex s).isLt, afterCopy_dmem _⟩
  · obtain ⟨x, _, hx, -, -, rfl⟩ := execOvlb_next h
    exact ⟨x.byte, _, iconOf_byte_lt hwf hx, afterOverlay_dmem _⟩

/-- All that a step can do to DMEM (R47, R55): nothing, the byte the host writes, or a byte of the
frame buffer that ANIM writes. -/
theorem step_dmem {s t : State} (hwf : s.cfg.wf = true) (h : step s = .next t) :
    t.dmem = s.dmem ∨
    (∃ a v, nextChoice s = .hwrite a v ∧ t.dmem = Memory.write s.dmem a.toNat v) ∨
    (nextChoice s = .anim ∧ ∃ j v, j < 64 ∧ t.dmem = Memory.write s.dmem (fbAddr s j) v) := by
  have hkept : (consumeChoice s).dmem = s.dmem := consumeChoice_dmem s
  rcases step_next h with ⟨-, hscan⟩ | ⟨hn, hanim⟩ | ⟨-, hport⟩ | ⟨a, v, hn, -, rfl⟩ |
    ⟨_, -, -, rfl⟩ | ⟨_, -, -, rfl⟩ | ⟨_, -, rfl⟩ | ⟨_, -, rfl⟩ | ⟨-, rfl⟩
  · rcases hscan with ⟨-, i, hd, hx⟩ | ⟨-, rfl⟩
    · obtain ⟨-, ⟨hdmem, -⟩, -⟩ := scanner_frame hd hx
      exact .inl (hdmem.trans hkept)
    · exact .inl hkept
  · rcases hanim with ⟨-, i, hd, hx⟩ | ⟨-, rfl⟩
    · have hwf' : (consumeChoice s).cfg.wf = true := by rwa [consumeChoice_cfg]
      have hwrite := engine_writes_frameBuffer hwf' hd hx
      simp only [fbAddr, consumeChoice_cfg, consumeChoice_dmem] at hwrite
      exact .inr (.inr ⟨hn, hwrite⟩)
    · exact .inl hkept
  · rcases hport with ⟨-, w, -, ⟨i, hd, hx⟩ | ⟨-, rfl⟩⟩ | ⟨-, rfl⟩
    · obtain ⟨-, hdmem, -⟩ := command_frame hd hx
      exact .inl (hdmem.trans hkept)
    · exact .inl hkept
    · exact .inl hkept
  · exact .inr (.inl ⟨a, v, hn, rfl⟩)
  all_goals exact .inl hkept

/-- The only address at which a write to a canonical memory can be seen is the one written, and it
reads what was written. -/
theorem Memory.read_write_of_ne {m : List Host.Cell} {size a b : Nat} {v : Byte}
    (hm : Memory.wf size m = true)
    (hne : Memory.read (Memory.write m b v) a ≠ Memory.read m a) :
    a = b ∧ Memory.read (Memory.write m b v) a = v := by
  have hread := Memory.wf_read_write b v hm a
  by_cases hab : a = b
  · exact ⟨hab, hread.trans (if_pos hab)⟩
  · exact absurd (hread.trans (if_neg hab)) hne

/-- Settles O41: whichever writer of `step_dmem` it was, the address that reads differently is the
one it wrote. -/
theorem dmemWrittenOnlyByItsWriters : Obligations.DmemWrittenOnlyByItsWriters := by
  intro s t a hinv h hne
  rcases step_dmem hinv.cfgWf h with heq | ⟨b, v, hn, heq⟩ | ⟨hn, j, v, hj, heq⟩
  · exact absurd (by rw [heq]) hne
  · rw [heq] at hne ⊢
    obtain ⟨rfl, hread⟩ := Memory.read_write_of_ne hinv.memWf hne
    exact .inl ⟨v, by rw [hn, BitVec.ofNat_toNat, BitVec.setWidth_eq], hread⟩
  · rw [heq] at hne
    obtain ⟨rfl, -⟩ := Memory.read_write_of_ne hinv.memWf hne
    exact .inr ⟨hn, Nat.le_add_right _ j, Nat.add_lt_add_left hj _⟩

end Sys2Proof.Machine
end

section
/-!
The encoding (spec/30_encoding.md R60 to R67, R72 to R74): the decoder and the encoder are inverse
to each other, the reserved words are the ones the decoder refuses, and how ANIM and PORT use the
decoder.
-/

namespace Sys2Proof

/-! ## The fields of a word and their must-be-zero bits -/

theorem exists_cmdWord (w : CmdWord) : ∃ op arg, w = cmdWord op arg :=
  ⟨_, _, (cmdWord_fields w).symm⟩

theorem cmdWord_inj {op op' : BitVec 4} {arg arg' : BitVec 16} :
    cmdWord op arg = cmdWord op' arg' ↔ op = op' ∧ arg = arg' := by
  constructor
  · intro h
    have hop := congrArg cmdOp h
    have harg := congrArg cmdArg h
    rw [cmdOp_cmdWord, cmdOp_cmdWord] at hop
    rw [cmdArg_cmdWord, cmdArg_cmdWord] at harg
    exact ⟨hop, harg⟩
  · rintro ⟨rfl, rfl⟩
    rfl

/-- The bits from `n` up are zero exactly when the number stays below `2 ^ n`. -/
theorem extractLsb'_high_eq_zero_iff {m n : Nat} (x : BitVec (m + n)) :
    x.extractLsb' n m = 0 ↔ x.toNat < 2 ^ n := by
  have hx : x.toNat < 2 ^ n * 2 ^ m := by
    rw [← Nat.pow_add, Nat.add_comm n m]
    exact x.isLt
  rw [← BitVec.toNat_inj, BitVec.extractLsb'_toNat, Nat.shiftRight_eq_div_pow,
    Nat.mod_eq_of_lt (Nat.div_lt_of_lt_mul hx)]
  simp [Nat.div_eq_zero_iff]

/-- A word whose must-be-zero bits are zero is those zeros above its other bits. -/
theorem zero_append_low {m n : Nat} {x : BitVec (m + n)} (h : x.extractLsb' n m = 0) :
    0#m ++ x.extractLsb' 0 n = x := by
  conv_rhs => rw [← BitVec.extractLsb'_append_extractLsb' (x := x), h]
  rfl

/-- Masking with the must-be-zero bits gives 0 only if they are zero. -/
theorem extractLsb'_high_of_and {m n : Nat} {x : BitVec (m + n)}
    (h : x &&& (BitVec.allOnes m ++ 0#n) = 0) : x.extractLsb' n m = 0 := by
  have hhigh := congrArg (BitVec.extractLsb' n m) h
  rwa [BitVec.extractLsb'_and, BitVec.extractLsb'_append_eq_left, BitVec.and_allOnes,
    BitVec.ofNat_eq_ofNat, BitVec.extractLsb'_zero] at hhigh

/-- SHOWICON's operand: zeros above the flag, the flag above the icon (R62). -/
theorem showicon_operand {arg : BitVec 16} (h : arg.extractLsb' 3 13 = 0) :
    0#13 ++ BitVec.ofBool (arg.getLsbD 2) ++ arg.extractLsb' 0 2 = arg := by
  have hzero : 0#13 = arg.extractLsb' 3 13 := h.symm
  have hflag : BitVec.ofBool (arg.getLsbD 2) = arg.extractLsb' 2 1 := by
    rw [BitVec.getLsbD_eq_extractLsb']
    generalize arg.extractLsb' 2 1 = b
    revert b
    decide
  have hhigh : arg.extractLsb' 3 13 ++ arg.extractLsb' 2 1 = arg.extractLsb' 2 14 :=
    BitVec.extractLsb'_append_extractLsb'_eq_extractLsb' rfl
  rw [hzero, hflag, hhigh]
  exact BitVec.extractLsb'_append_extractLsb' (w := 14) (len := 2)

/-- An opcode is one of the six of R61, or unused. -/
theorem opcode_cases (op : BitVec 4) :
    op = 1#4 ∨ op = 2#4 ∨ op = 3#4 ∨ op = 4#4 ∨ op = 5#4 ∨ op = 6#4 ∨
      (op.toNat = 0 ∨ 7 ≤ op.toNat) := by
  revert op
  decide

/-! ## The decoder on each opcode (R61, R62) -/

@[simp] theorem decode_cmdWord_init (arg : BitVec 16) :
    decode (.cmd (cmdWord 1#4 arg)) = if arg = 0 then .ok .init else .error .mustBeZero := by
  simp [decode, decodeCmd]

@[simp] theorem decode_cmdWord_select (arg : BitVec 16) :
    decode (.cmd (cmdWord 2#4 arg)) =
      if arg.extractLsb' 8 8 = 0 then .ok (.select (arg.extractLsb' 0 8))
      else .error .mustBeZero := by
  simp [decode, decodeCmd]

@[simp] theorem decode_cmdWord_setrate (arg : BitVec 16) :
    decode (.cmd (cmdWord 3#4 arg)) = .ok (.setrate arg) := by
  simp [decode, decodeCmd]

@[simp] theorem decode_cmdWord_showicon (arg : BitVec 16) :
    decode (.cmd (cmdWord 4#4 arg)) =
      if arg.extractLsb' 3 13 = 0 then .ok (.showicon (arg.extractLsb' 0 2) (arg.getLsbD 2))
      else .error .mustBeZero := by
  simp [decode, decodeCmd]

@[simp] theorem decode_cmdWord_update (arg : BitVec 16) :
    decode (.cmd (cmdWord 5#4 arg)) = if arg = 0 then .ok .update else .error .mustBeZero := by
  simp [decode, decodeCmd]

@[simp] theorem decode_cmdWord_setbuf (arg : BitVec 16) :
    decode (.cmd (cmdWord 6#4 arg)) = .ok (.setbuf arg) := by
  simp [decode, decodeCmd]

theorem decode_cmdWord_unused {op : BitVec 4} (arg : BitVec 16)
    (h : op.toNat = 0 ∨ 7 ≤ op.toNat) : decode (.cmd (cmdWord op arg)) = .error .opcode := by
  simp only [decode, decodeCmd, cmdOp_cmdWord]
  split
  case h_7 => rfl
  all_goals omega

/-! ## Decoding and encoding are inverse -/

/-- Settles O12: the operand of a command comes back from its field, whose must-be-zero bits the
encoder has set to zero; the sequencers' selectors are a finite table. -/
theorem decodeInvertsEncode : Obligations.DecodeInvertsEncode := by
  intro i
  cases i with
  | init | setrate | update | setbuf => simp [encode]
  | select id =>
    have hhigh : (0#8 ++ id).extractLsb' 8 8 = 0 := BitVec.extractLsb'_append_eq_left
    have hlow : (0#8 ++ id).extractLsb' 0 8 = id := BitVec.extractLsb'_append_eq_right
    exact (decode_cmdWord_select _).trans (by rw [if_pos hhigh, hlow])
  | showicon icon enabled =>
    revert icon enabled
    decide
  | _ => rfl

/-- A word that decodes to a command is that command's encoding. -/
theorem encode_of_decode_cmd {w : CmdWord} {i : Instr} (h : decode (.cmd w) = .ok i) :
    encode i = .cmd w := by
  obtain ⟨op, arg, rfl⟩ := exists_cmdWord w
  rcases opcode_cases op with rfl | rfl | rfl | rfl | rfl | rfl | hop
  · rw [decode_cmdWord_init] at h
    split_ifs at h with h0
    cases h
    rw [h0]
    rfl
  · rw [decode_cmdWord_select] at h
    split_ifs at h with h0
    cases h
    exact congrArg (Code.cmd ∘ cmdWord 2#4) (zero_append_low h0)
  · cases (decode_cmdWord_setrate arg).symm.trans h
    rfl
  · rw [decode_cmdWord_showicon] at h
    split_ifs at h with h0
    cases h
    exact congrArg (Code.cmd ∘ cmdWord 4#4) (showicon_operand h0)
  · rw [decode_cmdWord_update] at h
    split_ifs at h with h0
    cases h
    rw [h0]
    rfl
  · cases (decode_cmdWord_setbuf arg).symm.trans h
    rfl
  · cases (decode_cmdWord_unused arg hop).symm.trans h

/-- Settles O13: a command is put together again from its fields, and the sequencers' selectors are
a finite table. -/
theorem encodeInvertsDecode : Obligations.EncodeInvertsDecode := by
  intro c i h
  cases c with
  | cmd w => exact encode_of_decode_cmd h
  | aseq ap => rcases Machine.decodeAseq_ok h with ⟨rfl, rfl⟩ | ⟨rfl, rfl⟩ <;> rfl
  | sseq ph =>
    rcases Machine.decodeSseq_ok h with ⟨rfl, rfl⟩ | ⟨rfl, rfl⟩ | ⟨rfl, rfl⟩ | ⟨rfl, rfl⟩ |
      ⟨rfl, rfl⟩ | ⟨rfl, rfl⟩ | ⟨rfl, rfl⟩ | ⟨rfl, rfl⟩ | ⟨rfl, rfl⟩ | ⟨rfl, rfl⟩ | ⟨rfl, rfl⟩ |
      ⟨rfl, rfl⟩ <;> rfl

/-- Settles O11: the words are written out, so each decodes by evaluation. -/
theorem sampleWordsDecode : Obligations.SampleWordsDecode := by
  unfold Obligations.SampleWordsDecode
  decide

/-! ## The rows of the opcode table (R74) -/

theorem encode_matches_row (i : Instr) : Laws.TableRow.Statement i := by
  cases i with
  | init => exact Laws.TableRow.init
  | select id => exact Laws.TableRow.select id
  | setrate ms => exact Laws.TableRow.setrate ms
  | showicon icon enabled => exact Laws.TableRow.showicon icon enabled
  | update => exact Laws.TableRow.update
  | setbuf ptr => exact Laws.TableRow.setbuf ptr
  | _ => rfl

/-- A command word under a row that fixes the opcode and the bits `m` of the operand. -/
theorem cmdWord_meets_row_iff {op op' : BitVec 4} {arg m : BitVec 16} :
    (cmdWord op arg).toNat &&& (cmdWord 0xF#4 m).toNat = (cmdWord op' 0#16).toNat ↔
      op = op' ∧ arg &&& m = 0#16 := by
  rw [cmdWord_and, BitVec.toNat_inj, cmdWord_inj, show 0xF#4 = BitVec.allOnes 4 from rfl,
    BitVec.and_allOnes]

/-- A word that meets the row of a command decodes to a command of that mnemonic. -/
theorem decode_of_meets_row {w v : CmdWord} {j : Instr} (hj : encode j = .cmd v)
    (h : w.toNat &&& (tableRow j).1 = (tableRow j).2) :
    ∃ i, decode (.cmd w) = .ok i ∧ mnemonic i = mnemonic j := by
  obtain ⟨op, arg, rfl⟩ := exists_cmdWord w
  cases j with
  | init =>
    obtain ⟨rfl, hm⟩ := (cmdWord_meets_row_iff (op' := 1#4) (m := 0xFFFF#16)).1 h
    have h0 : arg = 0 := BitVec.and_allOnes.symm.trans hm
    exact ⟨.init, (decode_cmdWord_init arg).trans (if_pos h0), rfl⟩
  | select id =>
    obtain ⟨rfl, hm⟩ := (cmdWord_meets_row_iff (op' := 2#4) (m := 0xFF00#16)).1 h
    have h0 : arg.extractLsb' 8 8 = 0 := extractLsb'_high_of_and hm
    exact ⟨_, (decode_cmdWord_select arg).trans (if_pos h0), rfl⟩
  | setrate ms =>
    obtain ⟨rfl, -⟩ := (cmdWord_meets_row_iff (op' := 3#4) (m := 0#16)).1 h
    exact ⟨_, decode_cmdWord_setrate arg, rfl⟩
  | showicon icon enabled =>
    obtain ⟨rfl, hm⟩ := (cmdWord_meets_row_iff (op' := 4#4) (m := 0xFFF8#16)).1 h
    have h0 : arg.extractLsb' 3 13 = 0 := extractLsb'_high_of_and hm
    exact ⟨_, (decode_cmdWord_showicon arg).trans (if_pos h0), rfl⟩
  | update =>
    obtain ⟨rfl, hm⟩ := (cmdWord_meets_row_iff (op' := 5#4) (m := 0xFFFF#16)).1 h
    have h0 : arg = 0 := BitVec.and_allOnes.symm.trans hm
    exact ⟨_, (decode_cmdWord_update arg).trans (if_pos h0), rfl⟩
  | setbuf ptr =>
    obtain ⟨rfl, -⟩ := (cmdWord_meets_row_iff (op' := 6#4) (m := 0#16)).1 h
    exact ⟨_, decode_cmdWord_setbuf arg, rfl⟩
  | _ => cases hj

/-- Settles O14: what decodes is an encoding (O13), and an encoding meets its row. -/
theorem commandMatchesItsTableRow : Obligations.CommandMatchesItsTableRow := by
  intro w
  refine ⟨fun i h => ?_, fun j hj h => ?_⟩
  · have hrow : codeNat (encode i) &&& (tableRow i).1 = (tableRow i).2 := encode_matches_row i
    rwa [encode_of_decode_cmd h] at hrow
  · obtain ⟨v, hv⟩ := hj
    exact decode_of_meets_row hv h

/-! ## The reserved words (R64) -/

theorem reservedWord_cmdWord_iff {op : BitVec 4} {arg : BitVec 16} :
    Machine.reservedWord (cmdWord op arg) = true ↔
      op.toNat = 0 ∨ 7 ≤ op.toNat ∨ (op.toNat = 1 ∧ arg.toNat ≠ 0) ∨
        (op.toNat = 2 ∧ 256 ≤ arg.toNat) ∨ (op.toNat = 4 ∧ 8 ≤ arg.toNat) ∨
        (op.toNat = 5 ∧ arg.toNat ≠ 0) := by
  simp only [Machine.reservedWord, ← cmdOp_toNat, ← cmdArg_toNat, cmdOp_cmdWord, cmdArg_cmdWord,
    Bool.or_eq_true, Bool.and_eq_true, decide_eq_true_eq, or_assoc]

theorem exists_ite_eq_error_iff {α ε : Type} {p : Prop} [Decidable p] {a : α} {e : ε} :
    (∃ r, (if p then Except.ok a else .error e) = Except.error r) ↔ ¬ p := by
  split <;> simp [*]

/-- The reserved encodings are the words that the decoder refuses. -/
theorem reservedWord_iff_decode_error {w : CmdWord} :
    Machine.reservedWord w = true ↔ ∃ e, decode (.cmd w) = .error e := by
  obtain ⟨op, arg, rfl⟩ := exists_cmdWord w
  rw [reservedWord_cmdWord_iff]
  rcases opcode_cases op with rfl | rfl | rfl | rfl | rfl | rfl | hop
  · rw [decode_cmdWord_init, exists_ite_eq_error_iff, ← BitVec.toNat_inj]
    simp
  · rw [decode_cmdWord_select, exists_ite_eq_error_iff,
      extractLsb'_high_eq_zero_iff (m := 8) (n := 8) arg]
    simp
  · simp
  · rw [decode_cmdWord_showicon, exists_ite_eq_error_iff,
      extractLsb'_high_eq_zero_iff (m := 13) (n := 3) arg]
    simp
  · rw [decode_cmdWord_update, exists_ite_eq_error_iff, ← BitVec.toNat_inj]
    simp
  · simp
  · exact ⟨fun _ => ⟨_, decode_cmdWord_unused arg hop⟩, fun _ => or_assoc.1 (.inl hop)⟩

theorem forall_ne_ok_iff {α ε : Type} {r : Except ε α} :
    (∀ a, r ≠ .ok a) ↔ ∃ e, r = .error e := by
  cases r <;> simp

end Sys2Proof

namespace Sys2Proof.Machine

/-! ## How the agents use the decoder -/

/-- A step acts on the first listed choice. -/
theorem step_cons (c : Choice) (cs : List Choice) (s : State) :
    step { s with choices := c :: cs } = act c { s with choices := cs } := rfl

theorem microStep_of_ok {c : Code} {i : Instr} (s : State) (h : decode c = .ok i) :
    microStep c s = exec i s := by
  rw [microStep, h]

theorem acceptWord_of_ok {w : CmdWord} {i : Instr} (s : State) (h : decode (.cmd w) = .ok i) :
    acceptWord w s = exec i s := by
  rw [acceptWord, h]

theorem acceptWord_of_error {w : CmdWord} {e : Reserved} (s : State)
    (h : decode (.cmd w) = .error e) : acceptWord w s = .next (reject s) := by
  rw [acceptWord, h]

/-- PORT takes the waiting word while AP = IDLE (R72). -/
theorem portStep_of_idle {s : State} {w : CmdWord} (hap : s.ap = 0) (hcmd : s.cmd = some w) :
    portStep s = acceptWord w { s with cmd := none } := by
  rw [portStep, hcmd]
  exact if_pos (decide_eq_true hap)

/-- PORT has no step while AP is not IDLE (R72). -/
theorem portStep_of_busy {s : State} (hap : s.ap ≠ 0) : portStep s = .next s := by
  unfold portStep
  split
  · rfl
  · exact if_neg fun hready => hap (of_decide_eq_true hready)

/-- Settles O15: a reserved word is one that the decoder refuses, and PORT rejects what the decoder
refuses. -/
theorem reservedWordsAreRejected : Obligations.ReservedWordsAreRejected := by
  intro w
  refine ⟨reservedWord_iff_decode_error.trans forall_ne_ok_iff.symm, ?_⟩
  intro s cs hres hap hcmd
  obtain ⟨e, he⟩ := reservedWord_iff_decode_error.1 hres
  calc step { s with choices := .port :: cs }
      = portStep { s with choices := cs } := step_cons .port cs s
    _ = acceptWord w { s with choices := cs, cmd := none } := portStep_of_idle hap hcmd
    _ = .next (reject { s with choices := cs, cmd := none }) := acceptWord_of_error _ he

/-- Settles O7. -/
theorem animStepRunsSelectedOperation : Obligations.AnimStepRunsSelectedOperation := by
  intro s i cs hstarted hdec
  calc step { s with choices := .anim :: cs }
      = animStep { s with choices := cs } := step_cons .anim cs s
    _ = microStep (.aseq s.ap) { s with choices := cs } := if_pos hstarted
    _ = exec i { s with choices := cs } := microStep_of_ok _ hdec

/-- Settles O8. -/
theorem portStepRunsAcceptedCommand : Obligations.PortStepRunsAcceptedCommand := by
  intro s w i cs hap hcmd hdec
  calc step { s with choices := .port :: cs }
      = portStep { s with choices := cs } := step_cons .port cs s
    _ = acceptWord w { s with choices := cs, cmd := none } := portStep_of_idle hap hcmd
    _ = exec i { s with choices := cs, cmd := none } := acceptWord_of_ok _ hdec

theorem offerWord_of_none {s : State} (w : CmdWord) (hcmd : s.cmd = none) :
    offerWord w s = .next { s with cmd := some w } := by
  rw [offerWord, hcmd]

/-- Settles O9: the free port takes the offer, and PORT then has no step. -/
theorem offeredWordWaitsWhileBusy : Obligations.OfferedWordWaitsWhileBusy := by
  intro s w cs hap hcmd
  exact ⟨offerWord_of_none (s := { s with choices := .port :: cs }) w hcmd,
    portStep_of_busy (s := { s with choices := cs, cmd := some w }) hap⟩

/-! ## The codes on rsp_code (R63) -/

theorem Response.code_injective : Function.Injective Response.code := by
  intro r r'
  cases r <;> cases r' <;> decide

theorem rspCode_eq_some_iff (s : State) (r : Response) :
    s.rsp = some r ↔ s.rspCode = some r.code :=
  (Option.map_injective Response.code_injective).eq_iff.symm

/-- Settles O37: the codes are different, so each names its response. -/
theorem responsesCarryTheirCodes : Obligations.ResponsesCarryTheirCodes := by
  intro s
  refine ⟨?_, Option.map_eq_none_iff.symm, rspCode_eq_some_iff s .ok,
    rspCode_eq_some_iff s .rejected, rspCode_eq_some_iff s .configFault,
    rspCode_eq_some_iff s .resourceFault⟩
  rw [State.rspValid, State.rspCode, Option.isSome_iff_ne_none, ne_eq, ne_eq,
    Option.map_eq_none_iff]

end Sys2Proof.Machine
end

section
/-!
The engine's commands (spec/40_anim_commands.md R80 to R85): CatalogValid, INIT, SELECT, SETRATE and
SHOWICON, every branch with the whole next state.
-/

namespace Sys2Proof.Machine

/-! ## CatalogValid (R81) -/

/-- LENGTH_MAX bounds nothing: it is the largest value of the field. -/
theorem entryValid_iff {c : Config} {e : CatEntry} (hs : c.sourceValues = true) :
    entryValid c e = true ↔
      1 ≤ e.length.toNat ∧ 1 ≤ e.rate.toNat ∧ e.offset.toNat + e.length.toNat ≤ c.numOfFrames := by
  obtain ⟨-, -, -, -, -, hmin, hmax, -⟩ := Config.sourceValues_eq hs
  have hfits : e.length.toNat ≤ 255 := Nat.le_of_lt_succ e.length.isLt
  simp only [entryValid, hmin, hmax, hfits, Bool.and_eq_true, decide_eq_true_eq, and_true,
    and_assoc]

/-- Settles O16: an entry of the catalog is an entry at some index. -/
theorem catalogValidMeansEveryEntry : Obligations.CatalogValidMeansEveryEntry := by
  intro c hs
  simp only [catalogValid, List.all_eq_true, entryValid_iff hs, List.mem_iff_getElem?]
  exact ⟨fun h i e he => h e ⟨i, he⟩, fun h e ⟨i, he⟩ => h i e he⟩

/-! ## INIT (R82) -/

theorem initAdmitted_iff {s : State} :
    initAdmitted s = true ↔ ¬ (s.started = true ∨ s.fConfig = true ∨ s.fResource = true) := by
  simp only [initAdmitted, Bool.and_eq_true, Bool.not_eq_true', not_or, Bool.not_eq_true,
    and_assoc]

/-- INIT once it is admitted, the catalog is valid and the platform is up. -/
theorem execInit_of_ok {s : State} {e : CatEntry} (hadm : initAdmitted s = true)
    (hcat : catalogValid s.cfg = true) (hplat : s.platOk = true)
    (he : catEntry s.cfg s.cfg.defaultAnim = some e) :
    execInit s = .next (respond .ok (startBlock e s)) := by
  rw [execInit, if_pos hadm, if_pos hcat, if_pos hplat, he]

/-- Settles O17: the three checks of INIT in their order (R168). -/
theorem initStartsOrFaults : Obligations.InitStartsOrFaults := by
  intro s e he
  split_ifs with hout hcat hplat
  · exact if_neg fun hadm => initAdmitted_iff.1 hadm hout
  · have hadm := initAdmitted_iff.2 hout
    exact (if_pos hadm).trans (if_neg (Bool.eq_false_iff.1 hcat))
  · have hadm := initAdmitted_iff.2 hout
    have hvalid := Bool.eq_true_of_not_eq_false hcat
    exact (if_pos hadm).trans ((if_pos hvalid).trans (if_neg (Bool.eq_false_iff.1 hplat)))
  · exact execInit_of_ok (initAdmitted_iff.2 hout) (Bool.eq_true_of_not_eq_false hcat)
      (Bool.eq_true_of_not_eq_false hplat) he

/-! ## The commands admitted after INIT (R80) -/

/-- A command that is rejected before INIT, and where `p` holds. -/
theorem whenStarted_reject_eq (s : State) (p : Prop) [Decidable p]
    (k : Host.Outcome State Fault Refusal) :
    whenStarted s (if p then .next (reject s) else k) =
      if s.started = false ∨ p then .next (reject s) else k := by
  cases hs : s.started <;> simp [whenStarted, hs]

theorem execSelect_eq (id : BitVec 8) (s : State) :
    execSelect id s =
      if s.started = false ∨ s.cfg.numAnims ≤ id.toNat then .next (reject s)
      else if id = s.cur then .next (respond .ok s)
      else .next (respond .ok (switchTo id s)) := by
  rw [← whenStarted_reject_eq, execSelect]
  simp only [← Nat.not_lt, ite_not]

/-- Settles O18. -/
theorem selectSwitchesAnimation : Obligations.SelectSwitchesAnimation := by
  intro s id
  have heq := execSelect_eq id s
  split_ifs with hrej hcur
  · exact heq.trans (if_pos hrej)
  · exact heq.trans ((if_neg hrej).trans (if_pos hcur))
  · exact heq.trans ((if_neg hrej).trans (if_neg hcur))

theorem execSetrate_eq (ms : BitVec 16) (s : State) :
    execSetrate ms s =
      if s.started = false ∨ ms = 0 then .next (reject s)
      else .next (respond .ok { s with ovr := ms }) :=
  whenStarted_reject_eq s (ms = 0) _

/-- Settles O19. -/
theorem setrateWritesOverrideOnly : Obligations.SetrateWritesOverrideOnly := by
  intro s ms
  have heq := execSetrate_eq ms s
  split_ifs with hrej
  · exact heq.trans (if_pos hrej)
  · exact heq.trans (if_neg hrej)

theorem execShowicon_eq (icon : BitVec 2) (enabled : Bool) (s : State) :
    execShowicon icon enabled s =
      if s.started = false ∨ icon = 3 then .next (reject s)
      else .next (respond .ok { s with en := setIcon s.en icon enabled }) :=
  whenStarted_reject_eq s (icon = 3) _

/-- The new EN bit by bit (R85). -/
theorem setIcon_getLsbD (en : BitVec 3) (x : BitVec 2) (b : Bool) {k : Nat} (hk : k < 3) :
    (setIcon en x b).getLsbD k = if k = x.toNat then b else en.getLsbD k := by
  revert en x b k
  decide

/-- Settles O20. -/
theorem showiconWritesOneFlag : Obligations.ShowiconWritesOneFlag := by
  intro s icon enabled
  have heq := execShowicon_eq icon enabled s
  split_ifs with hrej
  · exact heq.trans (if_pos hrej)
  · exact ⟨_, heq.trans (if_neg hrej), fun _ => setIcon_getLsbD s.en icon enabled⟩

end Sys2Proof.Machine
end

section
/-!
The invariant of the block (spec/40_anim_commands.md R86; spec/10_state.md R19 to R26;
spec/42_scan_engine.md R120, R136, R137): one rule per update of the state, one lemma per agent, and
every step.
-/

namespace Sys2Proof.Machine

/-! ## The ports and the inputs -/

/-- The ports, the inputs, E_REJ and the environment's choices are not in the invariant. -/
theorem BlockInv.withPorts {s : State} (h : BlockInv s) (rej : Bool) (rsp : Option Response)
    (rdata : Byte) (cmd : Option CmdWord) (plat tx : Bool) (cs : List Choice) (n : Nat) :
    BlockInv { s with eRej := rej, rsp := rsp, hRdata := rdata, cmd := cmd, platOk := plat,
                      txStatus := tx, choices := cs, draws := n } :=
  { h with }

theorem BlockInv.respond {s : State} (h : BlockInv s) (r : Response) : BlockInv (respond r s) :=
  { h with }

theorem BlockInv.reject {s : State} (h : BlockInv s) : BlockInv (reject s) :=
  { h with }

theorem BlockInv.consumeChoice {s : State} (h : BlockInv s) : BlockInv (consumeChoice s) := by
  unfold Machine.consumeChoice
  split <;> exact { h with }

theorem BlockInv.rst {s : State} (h : BlockInv s) : BlockInv (rst s) :=
  { resetMeetsInvariant s.cfg s.dmem h.cfgWf h.memWf with }

theorem BlockInv.writeDmem {s : State} (h : BlockInv s) {a : Nat} (v : Byte)
    (ha : a < s.cfg.dmemSize) : BlockInv { s with dmem := Memory.write s.dmem a v } :=
  { h with memWf := Memory.wf_write v h.memWf ha }

/-! ## The commands of the port -/

/-- The engine's invariant at the first frame of an entry of the catalog (R82, R83). -/
theorem engineOk_at_start {s : State} {e : CatEntry} (hs : s.cfg.sourceValues = true)
    (hcat : catalogValid s.cfg = true) (he : catEntry s.cfg s.cur = some e)
    (hcursor : s.cursor = 0) (hacc : s.acc.toNat < s.rateEff.toNat) : s.engineOk := by
  obtain ⟨hlen, -, -⟩ := catEntry_valid hs hcat he
  exact ⟨hcat, hacc, e, he, by rw [hcursor]; exact hlen⟩

theorem no_outcome_of_initAdmitted {s : State} (hadm : initAdmitted s = true) :
    ¬ s.started = true ∧ ¬ s.fConfig = true ∧ ¬ s.fResource = true := by
  simpa only [not_or] using initAdmitted_iff.1 hadm

theorem BlockInv.startBlock {s : State} {e : CatEntry} (h : BlockInv s)
    (hadm : initAdmitted s = true) (hcat : catalogValid s.cfg = true)
    (he : catEntry s.cfg s.cfg.defaultAnim = some e) : BlockInv (startBlock e s) := by
  obtain ⟨hstarted, hconfig, hresource⟩ := no_outcome_of_initAdmitted hadm
  have hsource := Config.wf_source h.cfgWf
  obtain ⟨-, hrate, -⟩ := catEntry_valid hsource hcat he
  exact
    { h with
      engine := fun _ => engineOk_at_start hsource hcat he rfl hrate
      busyStarted := fun _ => rfl
      oneOutcome := ⟨fun hc => hconfig hc.2, fun hr => hresource hr.2, fun hc => hconfig hc.1⟩
      noBufStarted := fun _ => rfl
      resting := fun _ => h.resting (.inl (Bool.eq_false_of_not_eq_true hstarted))
      beforeInit := nofun }

/-- INIT's two faults: while it is admitted no outcome of an INIT is recorded yet (R161, R162). -/
theorem BlockInv.raiseInitFault {s : State} (h : BlockInv s) (hadm : initAdmitted s = true)
    {f : FatalFault} (hf : f ≠ .noBuf) : BlockInv (raiseFault f s) := by
  obtain ⟨hstarted, hconfig, hresource⟩ := no_outcome_of_initAdmitted hadm
  cases f with
  | config =>
    exact { h with oneOutcome := ⟨fun hs => hstarted hs.1, fun hs => hstarted hs.1,
      fun hr => hresource hr.2⟩ }
  | resource =>
    exact { h with oneOutcome := ⟨fun hs => hstarted hs.1, fun hs => hstarted hs.1,
      fun hc => hconfig hc.1⟩ }
  | noBuf => exact absurd rfl hf

theorem BlockInv.switchTo {s : State} (h : BlockInv s) {id : BitVec 8}
    (hid : id.toNat < s.cfg.numAnims) : BlockInv (switchTo id s) :=
  { h with
    engine := fun hs =>
      have ⟨hcat, hacc, _⟩ := h.engine hs
      engineOk_at_start (Config.wf_source h.cfgWf) hcat (List.getElem?_eq_getElem hid) rfl hacc }

/-- The commands that write OVR or EN alone are admitted after INIT only (R84, R85). -/
theorem BlockInv.setOverrideAndIcons {s : State} (h : BlockInv s) (hs : s.started = true)
    (ovr : BitVec 16) (en : BitVec 3) : BlockInv { s with ovr := ovr, en := en } :=
  { h with beforeInit := fun hf => nomatch hs.symm.trans hf }

theorem BlockInv.setBuffer {s : State} (h : BlockInv s) {ptr : Addr}
    (hw : windowInDmem s.cfg ptr = true) :
    BlockInv { s with scanBase := ptr, bufValid := true } :=
  { h with
    window := fun _ => of_decide_eq_true hw
    resting := fun hr => h.resting (hr.imp_right (Or.imp_left nofun)) }

theorem effectiveRate_pos {s : State} {e : CatEntry} (hrate : 1 ≤ e.rate.toNat) :
    0 < (effectiveRate s e).toNat := by
  unfold effectiveRate
  split
  · rename_i hovr
    exact Nat.pos_of_ne_zero fun hz => hovr (BitVec.eq_of_toNat_eq hz)
  · exact hrate

theorem nextCursor_lt (cursor : BitVec 8) {len : BitVec 8} (hlen : 1 ≤ len.toNat) :
    (nextCursor cursor len).toNat < len.toNat := by
  rw [nextCursor, BitVec.toNat_ofNat]
  exact (Nat.mod_le _ _).trans_lt (Nat.mod_lt _ hlen)

/-- An elapse shows a frame of the sheet and leaves the cursor in the animation (R102, R110). -/
theorem BlockInv.beginCopy {s : State} {e : CatEntry} (h : BlockInv s) (hs : s.started = true)
    (he : catEntry s.cfg s.cur = some e) : BlockInv (beginCopy e s) := by
  obtain ⟨hcat, -, e', he', hcursor⟩ := h.engine hs
  obtain rfl : e = e' := Option.some.inj (he.symm.trans he')
  obtain ⟨hlen, hrate, hframes⟩ := catEntry_valid (Config.wf_source h.cfgWf) hcat he
  exact
    { h with
      apLegal := (by decide : (1 : BitVec 2) ≠ 3)
      dispLegal := by
        show (BitVec.ofNat 8 (e.offset.toNat + s.cursor.toNat)).toNat < s.cfg.numOfFrames
        rw [BitVec.toNat_ofNat, Config.wf_numOfFrames h.cfgWf]
        exact (Nat.mod_le _ _).trans_lt (by omega)
      engine := fun _ => ⟨hcat, effectiveRate_pos hrate, e, he, nextCursor_lt s.cursor hlen⟩
      busyStarted := fun _ => hs }

theorem elapses_eq_false_iff {s : State} :
    elapses s = false ↔ s.force = false ∧ (ticked s).toNat < s.rateEff.toNat := by
  simp only [elapses, Bool.or_eq_false_iff, decide_eq_false_iff_not, BitVec.not_le, BitVec.lt_def]

/-- A tick that does not elapse stays below the interval (R101, R110). -/
theorem BlockInv.beginOverlay {s : State} (h : BlockInv s) (hs : s.started = true)
    (hel : elapses s = false) : BlockInv (beginOverlay s) := by
  obtain ⟨hcat, -, hcursor⟩ := h.engine hs
  exact
    { h with
      apLegal := (by decide : (2 : BitVec 2) ≠ 3)
      oiLegal := (by decide : (0 : BitVec 2) ≠ 3)
      engine := fun _ => ⟨hcat, (elapses_eq_false_iff.1 hel).2, hcursor⟩
      busyStarted := fun _ => hs }

theorem command_keepsInvariant {w : CmdWord} {i : Instr} {s t : State} (h : BlockInv s)
    (hd : decode (.cmd w) = .ok i) (hx : exec i s = .next t) : BlockInv t := by
  rcases decodeCmd_ok hd with rfl | ⟨id, rfl⟩ | ⟨ms, rfl⟩ | ⟨x, b, rfl⟩ | rfl | ⟨p, rfl⟩
  · rcases execInit_next hx with ⟨-, rfl⟩ | ⟨hadm, -, rfl⟩ | ⟨hadm, -, -, rfl⟩ |
      ⟨hadm, hcat, -, e, he, rfl⟩
    · exact h.reject
    · exact (h.raiseInitFault (f := .config) hadm nofun).respond _
    · exact (h.raiseInitFault (f := .resource) hadm nofun).respond _
    · exact (h.startBlock hadm hcat he).respond _
  · rcases execSelect_next hx with ⟨-, rfl⟩ | ⟨-, -, -, rfl⟩ | ⟨-, hid, -, rfl⟩
    · exact h.reject
    · exact h.respond _
    · exact (h.switchTo hid).respond _
  · rcases execSetrate_next hx with ⟨-, rfl⟩ | ⟨hs, -, rfl⟩
    · exact h.reject
    · exact (h.setOverrideAndIcons hs ms s.en).respond _
  · rcases execShowicon_next hx with ⟨-, rfl⟩ | ⟨hs, -, rfl⟩
    · exact h.reject
    · exact (h.setOverrideAndIcons hs s.ovr (setIcon s.en x b)).respond _
  · rcases execUpdate_next hx with ⟨-, rfl⟩ | ⟨hs, e, he, ⟨-, -, rfl⟩ | ⟨hel, rfl⟩⟩
    · exact h.reject
    · exact h.beginCopy hs he
    · exact h.beginOverlay hs hel
  · rcases execSetbuf_next hx with ⟨-, rfl⟩ | ⟨hw, rfl⟩
    · exact h.reject
    · exact (h.setBuffer hw).respond _

/-! ## The frame-copy sequencer -/

theorem BlockInv.afterCopy {s : State} (h : BlockInv s) (hs : s.started = true) :
    BlockInv (afterCopy s) := by
  unfold Machine.afterCopy
  split
  · exact { h with
      apLegal := (by decide : (2 : BitVec 2) ≠ 3)
      oiLegal := (by decide : (0 : BitVec 2) ≠ 3)
      busyStarted := fun _ => hs }
  · exact { h with }

/-- OI moves from 0 to 1 and from 1 to 2 (R104). -/
theorem icon_succ_legal {oi : BitVec 2} (hlegal : oi ≠ 3) (hlast : oi ≠ 2) : oi + 1 ≠ 3 := by
  revert oi
  decide

theorem BlockInv.afterOverlay {s : State} (h : BlockInv s) : BlockInv (afterOverlay s) := by
  unfold Machine.afterOverlay
  split
  · exact { h with
      apLegal := (by decide : (0 : BitVec 2) ≠ 3)
      busyStarted := fun hap => absurd rfl hap }
  · rename_i hlast
    exact { h with oiLegal := icon_succ_legal h.oiLegal hlast }

theorem engine_keepsInvariant {ap : BitVec 2} {i : Instr} {s t : State} (h : BlockInv s)
    (hs : s.started = true) (hd : decode (.aseq ap) = .ok i) (hx : exec i s = .next t) :
    BlockInv t := by
  rcases decodeAseq_ok hd with ⟨-, rfl⟩ | ⟨-, rfl⟩
  · obtain ⟨-, ha, rfl⟩ := execCopyb_next hx
    exact (h.writeDmem _ ha).afterCopy hs
  · obtain ⟨x, base, -, ha, -, rfl⟩ := execOvlb_next hx
    exact (h.writeDmem _ ha).afterOverlay

/-! ## The scanner -/

/-- SCAN has a step and a buffer to scan (R120, R123). -/
structure ScanRuns (s : State) : Prop where
  started : s.started = true
  bufValid : s.bufValid = true
  noFault : s.fNoBuf = false

/-- While the scanner runs nothing keeps it at rest. -/
theorem ScanRuns.not_resting {s : State} (hrun : ScanRuns s) :
    ¬ (s.started = false ∨ s.bufValid = false ∨ s.fNoBuf = true) := by
  simp [hrun.started, hrun.bufValid, hrun.noFault]

/-- F_NOBUF is raised before the scanner has moved (R120, R165). -/
theorem BlockInv.raiseNoBuf {s : State} (h : BlockInv s) (hs : s.started = true)
    (hbuf : s.bufValid = false) : BlockInv (raiseFault .noBuf s) :=
  { h with
    noBufStarted := fun _ => hs
    resting := fun _ => h.resting (.inr (.inl hbuf)) }

/-- The condition of `State.pinsOk`, on the phase and the two pins it speaks of (R137). -/
def pinsFit (ph : BitVec 4) (oe lat : Bool) : Bool :=
  (lat == (ph == 6 || ph == 7)) && (!(decide (5 ≤ ph) && decide (ph ≤ 9)) || !oe) &&
    (!(ph == 10 || ph == 11) || oe)

theorem pinsOk_eq_pinsFit (s : State) : s.pinsOk = pinsFit s.ph s.oe s.lat := rfl

/-- Up to OEOFF the phase fixes LAT alone (R137). -/
theorem pinsFit_of_loading :
    ∀ {ph : BitVec 4} {oe lat : Bool}, ph ≤ 4 → (pinsFit ph oe lat = true ↔ lat = false) := by
  decide

/-- A running scanner may go to any legal phase with the pins that go with it. -/
theorem BlockInv.moveScanner {s : State} (h : BlockInv s) (hrun : ScanRuns s) (S : BitVec 2)
    {ph : BitVec 4} {oe lat : Bool} (rowA rowB : Bool) (out : List Event) (hph : ph.toNat < 12)
    (hpins : pinsFit s.ph s.oe s.lat = true → pinsFit ph oe lat = true) :
    BlockInv { s with scanline := S, ph := ph, oe := oe, lat := lat, rowA := rowA, rowB := rowB,
                      out := out } :=
  { h with
    phLegal := hph
    resting := fun hrest => absurd hrest hrun.not_resting
    pins := (pinsOk_eq_pinsFit _).trans (hpins ((pinsOk_eq_pinsFit s).symm.trans h.pins)) }

theorem BlockInv.emit {s : State} (h : BlockInv s) (hrun : ScanRuns s) (e : Event) :
    BlockInv (emit e s) :=
  h.moveScanner hrun s.scanline s.rowA s.rowB _ h.phLegal id

theorem BlockInv.setSpanIndex {s : State} (h : BlockInv s) (hrun : ScanRuns s) {si : BitVec 2}
    (hsi : si.toNat < s.cfg.scanSpan) : BlockInv { s with si := si } :=
  { h with
    siLegal := hsi
    resting := fun hrest => absurd hrest hrun.not_resting }

/-- The loader goes round, or on to OEOFF (R123 to R126, R136). -/
theorem BlockInv.gotoLoading {s : State} (h : BlockInv s) (hrun : ScanRuns s) (hfrom : s.ph ≤ 4)
    {n : BitVec 4} (hto : n ≤ 4) : BlockInv (gotoPhase n s) := by
  have hlegal : n.toNat < 12 := Nat.lt_of_le_of_lt (BitVec.le_def.1 hto) (by decide)
  exact h.moveScanner hrun s.scanline s.rowA s.rowB s.out hlegal fun hfit =>
    (pinsFit_of_loading hto).2 ((pinsFit_of_loading hfrom).1 hfit)

theorem spanIndex_succ_lt {si : BitVec 2} {span : Nat} (hsi : si.toNat < span)
    (hlast : si.toNat + 1 ≠ span) : (si + 1).toNat < span := by
  rw [BitVec.toNat_add]
  exact (Nat.mod_le _ _).trans_lt (show si.toNat + 1 < span by omega)

theorem BlockInv.afterLastGroup {s : State} (h : BlockInv s) (hrun : ScanRuns s)
    (hfrom : s.ph ≤ 4) : BlockInv (afterLastGroup s) := by
  obtain ⟨⟨hpos, -⟩, -⟩ := Config.wf_timing h.cfgWf
  unfold Machine.afterLastGroup
  split_ifs with hone hlast
  · exact h.gotoLoading hrun hfrom (by decide)
  · exact (h.setSpanIndex (si := 0) hrun hpos).gotoLoading { hrun with } hfrom (by decide)
  · have hsi := spanIndex_succ_lt h.siLegal hlast
    exact (h.setSpanIndex hrun hsi).gotoLoading { hrun with } hfrom (by decide)

/-- With a buffer a SHIFT raises no fault (R123). -/
theorem shiftOut_next_of_bufValid {k : Nat} {f : State → State} {s t : State}
    (hbuf : s.bufValid = true) (hx : shiftOut k f s = .next t) : ∃ e, t = f (emit e s) := by
  rcases shiftOut_next hx with ⟨-, -, ht⟩ | ⟨hno, -⟩
  · exact ⟨_, ht⟩
  · exact nomatch hbuf.symm.trans hno

/-- SLEEP drives OE at most, and records what it does (R134, R135). -/
theorem waitPeriod_eq (s : State) : ∃ oe out, waitPeriod s = { s with oe := oe, out := out } := by
  unfold waitPeriod
  split_ifs <;> exact ⟨_, _, rfl⟩

theorem shift_keepsInvariant {k : Nat} {n : BitVec 4} {s t : State} (h : BlockInv s)
    (hrun : ScanRuns s) (hfrom : s.ph ≤ 4) (hto : n ≤ 4)
    (hx : shiftOut k (gotoPhase n) s = .next t) : BlockInv t := by
  obtain ⟨e, rfl⟩ := shiftOut_next_of_bufValid hrun.bufValid hx
  exact (h.emit hrun e).gotoLoading { hrun with } hfrom hto

theorem runningScanner_keepsInvariant {i : Instr} {s t : State} (h : BlockInv s)
    (hrun : ScanRuns s) (hd : decode (.sseq s.ph) = .ok i) (hx : exec i s = .next t) :
    BlockInv t := by
  rcases decodeSseq_ok hd with ⟨hph, rfl⟩ | ⟨hph, rfl⟩ | ⟨hph, rfl⟩ | ⟨hph, rfl⟩ | ⟨hph, rfl⟩ |
    ⟨hph, rfl⟩ | ⟨hph, rfl⟩ | ⟨hph, rfl⟩ | ⟨hph, rfl⟩ | ⟨hph, rfl⟩ | ⟨hph, rfl⟩ | ⟨hph, rfl⟩
  iterate 3
    · exact shift_keepsInvariant h hrun (hph ▸ by decide) (by decide) hx
  · obtain ⟨e, rfl⟩ := shiftOut_next_of_bufValid hrun.bufValid hx
    exact (h.emit hrun e).afterLastGroup { hrun with } (hph ▸ by decide)
  · have hpins : ∀ oe lat, pinsFit 4 oe lat = true → pinsFit 5 false lat = true := by decide
    cases next_eq hx
    exact h.moveScanner hrun _ _ _ _ (by decide) (hph ▸ hpins s.oe s.lat)
  · have hpins : ∀ oe lat, pinsFit 5 oe lat = true → pinsFit 6 oe true = true := by decide
    cases next_eq hx
    exact h.moveScanner hrun _ _ _ _ (by decide) (hph ▸ hpins s.oe s.lat)
  · have hpins : ∀ oe lat, pinsFit 6 oe lat = true → pinsFit 7 oe lat = true := by decide
    cases next_eq hx
    exact h.moveScanner hrun _ _ _ _ (by decide) (hph ▸ hpins s.oe s.lat)
  · have hpins : ∀ oe lat, pinsFit 7 oe lat = true → pinsFit 8 oe false = true := by decide
    cases next_eq hx
    exact h.moveScanner hrun _ _ _ _ (by decide) (hph ▸ hpins s.oe s.lat)
  · have hpins : ∀ oe lat, pinsFit 8 oe lat = true → pinsFit 9 oe lat = true := by decide
    cases next_eq hx
    exact h.moveScanner hrun _ _ _ _ (by decide) (hph ▸ hpins s.oe s.lat)
  · have hpins : ∀ oe lat, pinsFit 9 oe lat = true → pinsFit 10 true lat = true := by decide
    cases next_eq hx
    exact h.moveScanner hrun _ _ _ _ (by decide) (hph ▸ hpins s.oe s.lat)
  · have hpins : ∀ oe lat, pinsFit 10 oe lat = true → pinsFit 11 oe lat = true := by decide
    cases next_eq hx
    exact h.moveScanner hrun _ _ _ _ (by decide) (hph ▸ hpins s.oe s.lat)
  · have hpins : ∀ oe oe' lat, pinsFit 11 oe lat = true → pinsFit 0 oe' lat = true := by decide
    cases next_eq hx
    obtain ⟨oe, out, hwait⟩ := waitPeriod_eq s
    rw [hwait]
    exact h.moveScanner hrun s.scanline s.rowA s.rowB out (by decide) (hph ▸ hpins s.oe oe s.lat)

/-- Without a buffer the scanner rests, so its step is SHIFT3, which raises F_NOBUF. -/
theorem scanner_keepsInvariant {i : Instr} {s t : State} (h : BlockInv s)
    (hen : s.scanEnabled = true) (hd : decode (.sseq s.ph) = .ok i) (hx : exec i s = .next t) :
    BlockInv t := by
  obtain ⟨hs, hfault⟩ : s.started = true ∧ s.fNoBuf = false := by
    simpa [State.scanEnabled] using hen
  cases hbuf : s.bufValid with
  | true => exact runningScanner_keepsInvariant h ⟨hs, hbuf, hfault⟩ hd hx
  | false =>
    obtain ⟨-, hph, -⟩ := h.resting (.inr (.inl hbuf))
    rw [hph] at hd
    obtain rfl : Instr.shift3 = i := Except.ok.inj hd
    rcases shiftOut_next hx with ⟨hbuf', -⟩ | ⟨-, rfl⟩
    · exact nomatch hbuf.symm.trans hbuf'
    · exact h.raiseNoBuf hs hbuf

/-! ## Every step -/

/-- Settles O52, by the agents of `step_next`. -/
theorem stepKeepsInvariant : Obligations.StepKeepsInvariant := by
  intro s t hinv h
  have hu := hinv.consumeChoice
  rcases step_next h with ⟨-, hscan⟩ | ⟨-, hanim⟩ | ⟨-, hport⟩ | ⟨a, v, -, ha, rfl⟩ |
    ⟨_, -, -, rfl⟩ | ⟨_, -, -, rfl⟩ | ⟨_, -, rfl⟩ | ⟨_, -, rfl⟩ | ⟨-, rfl⟩
  · rcases hscan with ⟨hen, i, hd, hx⟩ | ⟨-, rfl⟩
    · rw [← consumeChoice_ph] at hd
      exact scanner_keepsInvariant hu (by simpa [State.scanEnabled] using hen) hd hx
    · exact hu
  · rcases hanim with ⟨hen, i, hd, hx⟩ | ⟨-, rfl⟩
    · exact engine_keepsInvariant hu ((consumeChoice_started s).trans hen) hd hx
    · exact hu
  · rcases hport with ⟨-, w, -, ⟨i, hd, hx⟩ | ⟨-, rfl⟩⟩ | ⟨-, rfl⟩
    · exact command_keepsInvariant (hu.withPorts _ _ _ none _ _ _ _) hd hx
    · exact (hu.withPorts _ _ _ none _ _ _ _).reject
    · exact hu
  · rw [← consumeChoice_cfg] at ha
    rw [← consumeChoice_dmem]
    exact hu.writeDmem v ha
  iterate 4 exact hu.withPorts _ _ _ _ _ _ _ _
  exact hu.rst

end Sys2Proof.Machine
end

section
/-!
The micro-steps of the frame-copy sequencer (spec/41_update_framecopy.md R103 to R106, R110): COPYB
and OVLB, each with its whole next state and the byte it stores.
-/

namespace Sys2Proof.Machine

/-! ## A store into the frame buffer (R106) -/

/-- `s` with the byte `v` stored as byte `j` of the engine's frame buffer. -/
def storeFb (s : State) (j : Nat) (v : Byte) : State :=
  { s with dmem := Memory.write s.dmem (fbAddr s j) v }

/-- A byte of the frame buffer of a well-formed configuration lies in DMEM (R56). -/
theorem dmemWrite_fbAddr {s : State} {j : Nat} (hwf : s.cfg.wf = true) (hj : j < 64) (v : Byte) :
    dmemWrite s (fbAddr s j) v = some (storeFb s j v) :=
  dmemWrite_of_lt ((Nat.add_lt_add_left hj _).trans_le (Config.wf_window hwf).1)

theorem dmemRead_fbAddr {s : State} {j : Nat} (hwf : s.cfg.wf = true) (hj : j < 64) :
    dmemRead s (fbAddr s j) = some (s.fbByte j) :=
  dmemRead_of_lt ((Nat.add_lt_add_left hj _).trans_le (Config.wf_window hwf).1)

/-- A byte of the displayed frame lies in SHEET (R110). -/
theorem sheetRead_baseByte {s : State} {j : Nat} (hwf : s.cfg.wf = true)
    (hdisp : s.disp.toNat < 167) (hj : j < 64) :
    sheetRead s.cfg (sheetAddr s j) = some (s.baseByte j) :=
  sheetRead_of_lt (sheetAddr_lt (Config.wf_source hwf) hdisp hj)

theorem baseByte_eq {s : State} (hwf : s.cfg.wf = true) (j : Nat) :
    s.baseByte j = Memory.read s.cfg.sheet (s.disp.toNat * 64 + j) := by
  rw [State.baseByte, sheetAddr, Config.wf_frameSize hwf]

/-! ## COPYB (R103) -/

/-- A well-formed COPY_ORDER has an entry for every value of CI. -/
theorem copyOrder_getElem?_ci {s : State} (hwf : s.cfg.wf = true) :
    s.cfg.copyOrder[s.ci.toNat]? = some (copyIndex s) := by
  have hlt : s.ci.toNat < s.cfg.copyOrder.length := (Config.wf_copyOrder hwf).1 ▸ s.ci.isLt
  rw [copyIndex, List.getD_eq_getElem _ _ hlt, List.getElem?_eq_getElem hlt]

/-- COPYB stops nowhere while DISP is a legal frame (R110). -/
theorem execCopyb_of_wf {s : State} (hwf : s.cfg.wf = true) (hdisp : s.disp.toNat < 167) :
    execCopyb s =
      .next (afterCopy (storeFb s (copyIndex s).toNat (s.baseByte (copyIndex s).toNat))) := by
  have hj : (copyIndex s).toNat < 64 := (copyIndex s).isLt
  simp only [execCopyb, sheetRead_baseByte hwf hdisp hj, dmemWrite_fbAddr hwf hj]

/-- Settles O25. -/
theorem copybCopiesOneByte : Obligations.CopybCopiesOneByte := by
  intro s hwf hmem hdisp
  refine ⟨copyIndex s, _, copyOrder_getElem?_ci hwf,
    (execCopyb_of_wf hwf hdisp).trans (congrArg _ (afterCopy_eq (Config.wf_source hwf))),
    fun a => ?_⟩
  rw [← baseByte_eq hwf]
  exact Memory.wf_read_write _ _ hmem a

/-! ## OVLB (R104, R105) -/

/-- The byte that an OVLB step for the icon `x` stores. -/
def drawnByte (s : State) (x : Icon) : Byte :=
  overlayByte (iconShown s s.oi) x.mask (s.fbByte x.byte) (s.baseByte x.byte)

/-- OVLB stops nowhere while OI names an icon and DISP is a legal frame (R110). That it reads the
displayed frame for a hidden icon only makes no difference. -/
theorem execOvlb_of_icon {s : State} {x : Icon} (hwf : s.cfg.wf = true)
    (hdisp : s.disp.toNat < 167) (hx : iconOf s.cfg s.oi = some x) :
    execOvlb s = .next (afterOverlay (storeFb s x.byte (drawnByte s x))) := by
  have hj := iconOf_byte_lt hwf hx
  simp only [execOvlb, drawnByte, hx, dmemRead_fbAddr hwf hj, sheetRead_baseByte hwf hdisp hj]
  cases iconShown s s.oi with
  | true =>
    simp only [if_true, dmemWrite_fbAddr hwf hj]
    rfl
  | false => simp only [Bool.false_eq_true, if_false, dmemWrite_fbAddr hwf hj]

/-- Settles O26. -/
theorem ovlbAppliesOneIcon : Obligations.OvlbAppliesOneIcon := by
  intro s hwf hmem hdisp hoi
  obtain ⟨x, hx⟩ := iconOf_some (c := s.cfg) hoi
  refine ⟨x, (storeFb s x.byte (drawnByte s x)).dmem, hx, execOvlb_of_icon hwf hdisp hx,
    fun a => ?_⟩
  rw [← baseByte_eq hwf]
  refine (Memory.wf_read_write _ _ hmem a).trans ?_
  by_cases ha : a = fbAddr s x.byte
  · subst ha
    rfl
  · exact (if_neg ha).trans (if_neg ha).symm

end Sys2Proof.Machine
end

section
/-!
The frame buffer of the frame-copy engine over every interleaving (spec/41_update_framecopy.md R103,
R104, R109; spec/70_reset_and_hazards.md R200): how far the frame of the UPDATE in progress is drawn.
-/

namespace Sys2Proof.Machine

/-! ## The byte of an OVLB step, bit by bit (R104) -/

theorem overlayByte_getLsbD (shown : Bool) (m old base : Byte) {i : Nat} (hi : i < 8) :
    (overlayByte shown m old base).getLsbD i =
      if m.getLsbD i then shown || base.getLsbD i else old.getLsbD i := by
  cases shown <;> cases hm : m.getLsbD i <;>
    simp [overlayByte, hm, hi, -BitVec.getLsbD_eq_getElem]

/-- The icon's own bits are as EN says. -/
theorem overlayByte_and_mask (shown : Bool) (m old base : Byte) :
    overlayByte shown m old base &&& m = if shown then m else base &&& m := by
  refine BitVec.eq_of_getLsbD_eq fun i hi => ?_
  rw [BitVec.getLsbD_and, overlayByte_getLsbD shown m old base hi]
  cases hm : m.getLsbD i <;> cases shown <;> simp [hm]

/-- Bits outside the mask are left alone. -/
theorem overlayByte_and_of_disjoint {m k : Byte} (shown : Bool) (old base : Byte)
    (hmk : m &&& k = 0) : overlayByte shown m old base &&& k = old &&& k := by
  refine BitVec.eq_of_getLsbD_eq fun i hi => ?_
  have hbit : (m.getLsbD i && k.getLsbD i) = false := by
    rw [← BitVec.getLsbD_and, hmk, BitVec.ofNat_eq_ofNat, BitVec.getLsbD_zero]
  rw [BitVec.getLsbD_and, BitVec.getLsbD_and, overlayByte_getLsbD shown m old base hi]
  cases hm : m.getLsbD i with
  | true =>
    rw [hm, Bool.true_and] at hbit
    simp [hbit]
  | false => simp

/-! ## The icons of a well-formed configuration (R5) -/

/-- An icon's bits are among the bits of its byte that belong to icons. -/
theorem iconBits_getLsbD_of_mask {c : Config} {x : BitVec 2} {i : Icon}
    (hi : iconOf c x = some i) {k : Nat} (hk : i.mask.getLsbD k = true) :
    (iconBits c i.byte).getLsbD k = true := by
  simp only [iconBits, BitVec.getLsbD_or, Bool.or_eq_true]
  match x, hi with
  | 0, hi => cases hi; exact .inl (.inl ((if_pos rfl).symm ▸ hk))
  | 1, hi => cases hi; exact .inl (.inr ((if_pos rfl).symm ▸ hk))
  | 2, hi => cases hi; exact .inr ((if_pos rfl).symm ▸ hk)
  | 3, hi => cases hi

theorem mask_and_not_iconBits {c : Config} {x : BitVec 2} {i : Icon} (hi : iconOf c x = some i) :
    i.mask &&& ~~~ iconBits c i.byte = 0 := by
  refine BitVec.eq_of_getLsbD_eq fun k hk => ?_
  rw [BitVec.getLsbD_and, BitVec.getLsbD_not, BitVec.ofNat_eq_ofNat, BitVec.getLsbD_zero]
  cases hm : i.mask.getLsbD k with
  | true => rw [iconBits_getLsbD_of_mask hi hm, Bool.not_true, Bool.and_false, Bool.and_false]
  | false => exact Bool.false_and _

/-- Two icons on one byte have disjoint masks. -/
theorem masks_disjoint {c : Config} {x y : BitVec 2} {i k : Icon} (hwf : c.wf = true)
    (hxy : x ≠ y) (hi : iconOf c x = some i) (hk : iconOf c y = some k) (hbyte : i.byte = k.byte) :
    i.mask &&& k.mask = 0 := by
  obtain ⟨h01, h02, h12⟩ := Config.wf_masks hwf
  have hcomm := BitVec.and_comm i.mask k.mask
  match x, y, hi, hk with
  | 0, 0, _, _ | 1, 1, _, _ | 2, 2, _, _ => exact absurd rfl hxy
  | 0, 1, hi, hk => cases hi; cases hk; exact h01 hbyte
  | 0, 2, hi, hk => cases hi; cases hk; exact h02 hbyte
  | 1, 2, hi, hk => cases hi; cases hk; exact h12 hbyte
  | 1, 0, hi, hk => cases hi; cases hk; exact hcomm.trans (h01 hbyte.symm)
  | 2, 0, hi, hk => cases hi; cases hk; exact hcomm.trans (h02 hbyte.symm)
  | 2, 1, hi, hk => cases hi; cases hk; exact hcomm.trans (h12 hbyte.symm)
  | 3, _, hi, _ => cases hi
  | 0, 3, _, hk | 1, 3, _, hk | 2, 3, _, hk => cases hk

/-! ## What is drawn, and which state it is read from -/

/-- The bytes COPY_ORDER lists before place `n` hold the displayed frame (R103). -/
def CopiedBefore (s : State) (n : Nat) : Prop :=
  ∀ i, i < n → ∀ j, s.cfg.copyOrder[i]? = some j → s.fbByte j.toNat = s.baseByte j.toNat

/-- The icons before `n` are as EN says (R104). -/
def IconsDrawnBefore (s : State) (n : Nat) : Prop :=
  ∀ x : BitVec 2, x.toNat < n → s.iconDrawn x

theorem frameOk_iff {s : State} :
    s.frameOk ↔ (s.ap = 1 → CopiedBefore s s.ci.toNat) ∧ (s.ap ≠ 1 → s.spriteDrawn) ∧
      (s.ap = 2 → IconsDrawnBefore s s.oi.toNat) := Iff.rfl

/-- Configuration, DISP and the 64 bytes of the frame buffer are the same. -/
structure SamePicture (s t : State) : Prop where
  cfg : t.cfg = s.cfg
  disp : t.disp = s.disp
  fbByte : ∀ j, j < 64 → t.fbByte j = s.fbByte j

theorem SamePicture.of_dmem {s t : State} (hcfg : t.cfg = s.cfg) (hdisp : t.disp = s.disp)
    (hdmem : t.dmem = s.dmem) : SamePicture s t :=
  ⟨hcfg, hdisp, fun j _ => by simp only [State.fbByte, fbAddr, hcfg, hdmem]⟩

theorem SamePicture.baseByte {s t : State} (h : SamePicture s t) (j : Nat) :
    t.baseByte j = s.baseByte j := by
  simp only [State.baseByte, sheetAddr, h.cfg, h.disp]

theorem SamePicture.copiedBefore {s t : State} (h : SamePicture s t) {n : Nat}
    (hs : CopiedBefore s n) : CopiedBefore t n := by
  intro i hi j hj
  rw [h.fbByte _ j.isLt, h.baseByte]
  exact hs i hi j (h.cfg ▸ hj)

theorem SamePicture.spriteDrawn {s t : State} (h : SamePicture s t) (hs : s.spriteDrawn) :
    t.spriteDrawn := by
  intro j hj
  rw [h.fbByte j hj, h.baseByte, h.cfg]
  exact hs j hj

theorem SamePicture.iconDrawn {s t : State} (h : SamePicture s t) (hwf : s.cfg.wf = true)
    (hen : t.en = s.en) {x : BitVec 2} (hs : s.iconDrawn x) : t.iconDrawn x := by
  intro i hi
  rw [h.cfg] at hi
  rw [h.fbByte _ (iconOf_byte_lt hwf hi), h.baseByte, iconShown, hen]
  exact hs i hi

/-- The same picture at the same place of the sequencer. -/
theorem SamePicture.frameOk {s t : State} (h : SamePicture s t) (hwf : s.cfg.wf = true)
    (hen : t.en = s.en) (hap : t.ap = s.ap) (hci : t.ci = s.ci) (hoi : t.oi = s.oi)
    (hs : s.frameOk) : t.frameOk := by
  obtain ⟨hcopy, hsprite, hicons⟩ := frameOk_iff.1 hs
  rw [frameOk_iff, hap, hci, hoi]
  exact ⟨fun h1 => h.copiedBefore (hcopy h1), fun h1 => h.spriteDrawn (hsprite h1),
    fun h2 x hx => h.iconDrawn hwf hen (hicons h2 x hx)⟩

/-- At the start of a copy nothing need be drawn. -/
theorem frameOk_of_copyStart {s : State} (hap : s.ap = 1) (hci : s.ci = 0) : s.frameOk := by
  rw [frameOk_iff, hap, hci]
  exact ⟨fun _ _ hi => absurd hi (Nat.not_lt_zero _), fun h => absurd rfl h,
    fun h => absurd h (by decide)⟩

/-- At rest, and at the start of the overlay pass, the sprite is enough. -/
theorem frameOk_of_spriteDrawn {s : State} (hs : s.spriteDrawn)
    (hap : s.ap = 0 ∨ (s.ap = 2 ∧ s.oi = 0)) : s.frameOk := by
  refine frameOk_iff.2 ⟨fun h1 => ?_, fun _ => hs, fun h2 => ?_⟩
  · rcases hap with h0 | ⟨h2, -⟩
    · exact absurd (h0.symm.trans h1) (by decide)
    · exact absurd (h2.symm.trans h1) (by decide)
  · rcases hap with h0 | ⟨-, hoi⟩
    · exact absurd (h0.symm.trans h2) (by decide)
    · rw [hoi]
      exact fun _ hx => absurd hx (Nat.not_lt_zero _)

/-! ## One byte stored -/

theorem storeFb_fbByte {s : State} (hmem : Memory.wf s.cfg.dmemSize s.dmem = true) (j k : Nat)
    (v : Byte) : (storeFb s j v).fbByte k = if k = j then v else s.fbByte k := by
  refine (Memory.wf_read_write _ v hmem _).trans (if_congr ?_ rfl rfl)
  exact Nat.add_left_cancel_iff

@[simp] theorem storeFb_baseByte (s : State) (j k : Nat) (v : Byte) :
    (storeFb s j v).baseByte k = s.baseByte k := rfl

/-- Copying the byte at place `n` of COPY_ORDER. -/
theorem CopiedBefore.storeFb {s : State} {n : Nat} {j : BitVec 6} (h : CopiedBefore s n)
    (hmem : Memory.wf s.cfg.dmemSize s.dmem = true) (hj : s.cfg.copyOrder[n]? = some j) :
    CopiedBefore (storeFb s j.toNat (s.baseByte j.toNat)) (n + 1) := by
  intro i hi k hk
  rw [storeFb_fbByte hmem, storeFb_baseByte]
  by_cases hkj : k.toNat = j.toNat
  · rw [if_pos hkj, hkj]
  · have hne : i ≠ n := by
      rintro rfl
      exact hkj (congrArg BitVec.toNat (Option.some.inj (hk.symm.trans hj)))
    rw [if_neg hkj]
    exact h i (by omega) k hk

/-- COPY_ORDER lists every byte, so a finished copy has drawn the whole frame (R103). -/
theorem CopiedBefore.fbByte_eq {s : State} (h : CopiedBefore s 64) (hwf : s.cfg.wf = true) {j : Nat}
    (hj : j < 64) : s.fbByte j = s.baseByte j := by
  obtain ⟨hlen, hnodup⟩ := Config.wf_copyOrder hwf
  have hmem := (nodup_iff_forall_mem_of_length hlen).1 hnodup (BitVec.ofNat 6 j)
  obtain ⟨i, hi⟩ := List.mem_iff_getElem?.1 hmem
  have hlt : i < 64 := hlen ▸ (List.getElem?_eq_some_iff.1 hi).1
  have heq := h i hlt _ hi
  rwa [BitVec.toNat_ofNat, Nat.mod_eq_of_lt hj] at heq

theorem CopiedBefore.spriteDrawn {s : State} (h : CopiedBefore s 64) (hwf : s.cfg.wf = true) :
    s.spriteDrawn :=
  fun _ hj => congrArg (· &&& _) (h.fbByte_eq hwf hj)

section
variable {s : State} {x : Icon} (hmem : Memory.wf s.cfg.dmemSize s.dmem = true)
  (hx : iconOf s.cfg s.oi = some x)
include hmem hx

/-- An OVLB step leaves the bits outside the icons alone. -/
theorem spriteDrawn_storeFb_icon (h : s.spriteDrawn) :
    (storeFb s x.byte (drawnByte s x)).spriteDrawn := by
  intro j hj
  rw [storeFb_fbByte hmem, storeFb_baseByte]
  refine Eq.trans ?_ (h j hj)
  split
  · rename_i hjx
    subst hjx
    exact overlayByte_and_of_disjoint _ _ _ (mask_and_not_iconBits hx)
  · rfl

/-- An OVLB step leaves the bits of the other icons alone. -/
theorem iconDrawn_storeFb_of_ne (hwf : s.cfg.wf = true) {y : BitVec 2} (hy : y ≠ s.oi)
    (h : s.iconDrawn y) : (storeFb s x.byte (drawnByte s x)).iconDrawn y := by
  intro i hi
  rw [storeFb_fbByte hmem, storeFb_baseByte]
  refine Eq.trans ?_ (h i hi)
  split
  · rename_i hix
    rw [hix]
    exact overlayByte_and_of_disjoint _ _ _ (masks_disjoint hwf hy.symm hx hi hix.symm)
  · rfl

/-- An OVLB step draws the icon it is for. -/
theorem iconDrawn_storeFb : (storeFb s x.byte (drawnByte s x)).iconDrawn s.oi := by
  intro i hi
  obtain rfl : x = i := Option.some.inj (hx.symm.trans hi)
  rw [storeFb_fbByte hmem, if_pos rfl, storeFb_baseByte]
  exact overlayByte_and_mask _ _ _ _

theorem IconsDrawnBefore.storeFb (hwf : s.cfg.wf = true) (h : IconsDrawnBefore s s.oi.toNat) :
    IconsDrawnBefore (storeFb s x.byte (drawnByte s x)) (s.oi.toNat + 1) := by
  intro y hy
  by_cases hyo : y = s.oi
  · rw [hyo]
    exact iconDrawn_storeFb hmem hx
  · have hne : y.toNat ≠ s.oi.toNat := fun he => hyo (BitVec.eq_of_toNat_eq he)
    exact iconDrawn_storeFb_of_ne hmem hx hwf hyo (h y (by omega))

end
end Sys2Proof.Machine
end

section
/-!
UPDATE and the refresh timer (spec/41_update_framecopy.md R100 to R102, R107, R108, R111, R112):
one UPDATE exactly, and runs of accepted UPDATEs.
-/

namespace Sys2Proof.Machine

/-! ## One UPDATE (R100 to R102, R112) -/

theorem execUpdate_of_tick {s : State} {e : CatEntry} (hs : s.started = true)
    (he : catEntry s.cfg s.cur = some e) (hel : elapses s = false) :
    execUpdate s = .next (beginOverlay s) := by
  simp only [execUpdate, whenStarted, hs, he, hel, if_true, Bool.false_eq_true, if_false]

theorem execUpdate_of_elapse {s : State} {e : CatEntry} (hs : s.started = true)
    (he : catEntry s.cfg s.cur = some e) (hlen : e.length ≠ 0) (hel : elapses s = true) :
    execUpdate s = .next (beginCopy e s) := by
  simp only [execUpdate, whenStarted, hs, he, hel, hlen, if_true, if_false]

/-- An entry of a valid catalog has a frame. -/
theorem length_ne_zero {e : CatEntry} (hlen : 1 ≤ e.length.toNat) : e.length ≠ 0 := by
  intro h
  rw [h] at hlen
  exact absurd hlen (by decide)

/-- `ACC + 1` does not wrap while ACC is below the interval (R110). -/
theorem ticked_toNat {s : State} (hacc : s.acc.toNat < s.rateEff.toNat) :
    (ticked s).toNat = s.acc.toNat + 1 := by
  have hrate := s.rateEff.isLt
  rw [ticked, BitVec.toNat_add]
  exact Nat.mod_eq_of_lt (show s.acc.toNat + 1 < 2 ^ 16 by omega)

/-- When an UPDATE elapses (R101, R112). -/
theorem elapses_iff {s : State} (hacc : s.acc.toNat < s.rateEff.toNat) :
    elapses s = true ↔ s.force = true ∨ s.rateEff.toNat ≤ s.acc.toNat + 1 := by
  rw [elapses, Bool.or_eq_true, decide_eq_true_eq, BitVec.le_def, ticked_toNat hacc]

theorem effectiveRate_eq (s : State) (e : CatEntry) :
    effectiveRate s e = if s.ovr = 0 then e.rate else s.ovr :=
  ite_not _ _ _

/-- The frame index of an elapse is an exact sum (R86, R102). -/
theorem beginCopy_disp_toNat {s : State} {e : CatEntry}
    (hframes : e.offset.toNat + e.length.toNat ≤ 167) (hcursor : s.cursor.toNat < e.length.toNat) :
    (beginCopy e s).disp.toNat = e.offset.toNat + s.cursor.toNat := by
  show (BitVec.ofNat 8 _).toNat = _
  rw [BitVec.toNat_ofNat]
  omega

theorem nextCursor_toNat (cursor : BitVec 8) {len : BitVec 8} (hlen : 1 ≤ len.toNat) :
    (nextCursor cursor len).toNat = (cursor.toNat + 1) % len.toNat := by
  have hlt := Nat.mod_lt (cursor.toNat + 1) hlen
  have hmax := len.isLt
  rw [nextCursor, BitVec.toNat_ofNat]
  omega

/-- Settles O22. -/
theorem updateTicksOrElapses : Obligations.UpdateTicksOrElapses := by
  intro s hwf hinv
  split
  · rename_i hs
    exact if_neg (Bool.eq_false_iff.1 hs)
  · rename_i hs
    have hs := Bool.eq_true_of_not_eq_false hs
    obtain ⟨hcat, hacc, e, he, hcursor⟩ := hinv hs
    obtain ⟨hlen, -, hframes⟩ := catEntry_valid (Config.wf_source hwf) hcat he
    refine ⟨e, he, ?_⟩
    split
    · rename_i hel
      refine ⟨_, _, beginCopy_disp_toNat hframes hcursor, nextCursor_toNat s.cursor hlen, ?_⟩
      rw [← effectiveRate_eq]
      exact execUpdate_of_elapse hs he (length_ne_zero hlen) ((elapses_iff hacc).2 hel)
    · rename_i hel
      exact ⟨_, ticked_toNat hacc, execUpdate_of_tick hs he
        (Bool.eq_false_iff.2 fun h => hel ((elapses_iff hacc).1 h))⟩

/-- Settles O23: with one frame the cursor is 0, and stays 0 mod 1. -/
theorem lengthOneNeverAdvances : Obligations.LengthOneNeverAdvances := by
  intro s t e hwf hs hinv he hone h
  obtain ⟨hcat, -, e', he', hcursor⟩ := hinv
  obtain rfl : e = e' := Option.some.inj (he.symm.trans he')
  obtain ⟨hlen, -, hframes⟩ := catEntry_valid (Config.wf_source hwf) hcat he
  have hlen1 : e.length.toNat = 1 := congrArg BitVec.toNat hone
  have hzero : s.cursor = 0 := BitVec.eq_of_toNat_eq (Nat.lt_one_iff.1 (hlen1 ▸ hcursor))
  rcases execUpdate_next h with ⟨hno, -⟩ | ⟨-, e', he', ⟨-, -, rfl⟩ | ⟨-, rfl⟩⟩
  · exact nomatch hs.symm.trans hno
  · obtain rfl : e = e' := Option.some.inj (he.symm.trans he')
    refine ⟨BitVec.eq_of_toNat_eq ?_, fun _ => BitVec.eq_of_toNat_eq ?_⟩
    · exact (nextCursor_toNat s.cursor hlen).trans (by rw [hlen1, Nat.mod_one]; rfl)
    · rw [beginCopy_disp_toNat hframes hcursor, hzero]
      rfl
  · exact ⟨hzero, fun hap => absurd (show (2 : BitVec 2) = 1 from hap) (by decide)⟩

/-! ## Runs of accepted UPDATEs (R101) -/

theorem afterUpdates_succ {n : Nat} {s t u : State} (h : afterUpdates n s = some t)
    (hx : execUpdate { t with ap := 0 } = .next u) : afterUpdates (n + 1) s = some u := by
  simp only [afterUpdates, h, exec, hx]

theorem afterUpdates_add {m : Nat} {s t : State} (h : afterUpdates m s = some t) (n : Nat) :
    afterUpdates (m + n) s = afterUpdates n t := by
  induction n with
  | zero => exact h
  | succ n ih => rw [← Nat.add_assoc, afterUpdates, afterUpdates, ih]

/-- `s` with `n` ticks counted; the registers that the overlay passes of those UPDATEs write are
given beside. -/
def counted (s : State) (n : Nat) (ap oi : BitVec 2) (rsp : Option Response) : State :=
  { s with acc := s.acc + BitVec.ofNat 16 n, ap := ap, oi := oi, rsp := rsp }

theorem counted_zero (s : State) : counted s 0 s.ap s.oi s.rsp = s := by
  rw [counted, BitVec.add_zero]

theorem beginOverlay_counted (s : State) (n : Nat) (ap oi : BitVec 2) (rsp : Option Response) :
    beginOverlay (counted s n ap oi rsp) = counted s (n + 1) 2 0 none := by
  rw [beginOverlay, ticked, counted, counted, BitVec.ofNat_add, ← BitVec.add_assoc]
  rfl

/-- `ACC + n` for a number of ticks that fits (R110). -/
theorem counted_acc_toNat {s : State} {n : Nat} (hn : s.acc.toNat + n < s.rateEff.toNat)
    (ap oi : BitVec 2) (rsp : Option Response) :
    (counted s n ap oi rsp).acc.toNat = s.acc.toNat + n := by
  have hrate := s.rateEff.isLt
  rw [counted, BitVec.toNat_add, BitVec.toNat_ofNat]
  omega

/-- While FORCE = 0 the next UPDATE elapses when it brings ACC to the interval (R101). -/
theorem elapses_counted_iff {s : State} {n : Nat} (hforce : s.force = false)
    (hn : s.acc.toNat + n < s.rateEff.toNat) (ap oi : BitVec 2) (rsp : Option Response) :
    elapses (counted s n ap oi rsp) = true ↔ s.rateEff.toNat ≤ s.acc.toNat + n + 1 := by
  have hacc := counted_acc_toNat hn ap oi rsp
  have hiff := elapses_iff (s := counted s n ap oi rsp) (hacc.trans_lt hn)
  rw [hacc] at hiff
  exact hiff.trans (or_iff_right (Bool.eq_false_iff.1 hforce))

section
variable {s : State} {e : CatEntry} (hs : s.started = true) (he : catEntry s.cfg s.cur = some e)
  (hforce : s.force = false)
include hs he hforce

/-- UPDATEs that stay below the interval count ACC up (R101). -/
theorem afterUpdates_of_ticks (n : Nat) (hn : s.acc.toNat + n < s.rateEff.toNat) :
    ∃ oi rsp, afterUpdates n s = some (counted s n (if n = 0 then s.ap else 2) oi rsp) := by
  induction n with
  | zero => exact ⟨s.oi, s.rsp, congrArg some (counted_zero s).symm⟩
  | succ n ih =>
    have hlt : s.acc.toNat + n < s.rateEff.toNat := by omega
    obtain ⟨oi, rsp, hrun⟩ := ih hlt
    have hel : elapses (counted s n 0 oi rsp) = false :=
      Bool.eq_false_iff.2 fun h => absurd ((elapses_counted_iff hforce hlt 0 oi rsp).1 h)
        (Nat.not_le_of_lt hn)
    have hx := execUpdate_of_tick (s := counted s n 0 oi rsp) hs he hel
    rw [beginOverlay_counted] at hx
    exact ⟨0, none, afterUpdates_succ hrun hx⟩

/-- The UPDATE that brings ACC to the interval is an elapse (R101, R102). -/
theorem afterUpdates_of_elapse (hlen : e.length ≠ 0) {n : Nat}
    (hacc : s.acc.toNat < s.rateEff.toNat) (hn : s.acc.toNat + n = s.rateEff.toNat) :
    ∃ oi, afterUpdates n s = some (beginCopy e { s with oi := oi }) := by
  obtain ⟨m, rfl⟩ := Nat.exists_eq_succ_of_ne_zero (show n ≠ 0 by omega)
  have hlt : s.acc.toNat + m < s.rateEff.toNat := by omega
  obtain ⟨oi, rsp, hrun⟩ := afterUpdates_of_ticks hs he hforce m hlt
  have hel := (elapses_counted_iff hforce hlt 0 oi rsp).2 hn.ge
  exact ⟨oi, afterUpdates_succ hrun
    (execUpdate_of_elapse (s := counted s m 0 oi rsp) hs he hlen hel)⟩

end

/-- Settles O50. -/
theorem timerElapsesAtEffectiveRate : Obligations.TimerElapsesAtEffectiveRate := by
  intro s n hwf hs ⟨hcat, hacc, e, he, hcursor⟩ hforce
  obtain ⟨hlen, -, hframes⟩ := catEntry_valid (Config.wf_source hwf) hcat he
  constructor
  · intro hn
    obtain ⟨oi, rsp, hrun⟩ := afterUpdates_of_ticks hs he hforce n hn
    exact ⟨_, hrun, counted_acc_toNat hn _ oi rsp, rfl, rfl, rfl⟩
  · intro hn
    obtain ⟨oi, hrun⟩ := afterUpdates_of_elapse hs he hforce (length_ne_zero hlen) hacc hn
    exact ⟨_, hrun, rfl, rfl, e, he, beginCopy_disp_toNat hframes hcursor⟩

/-! ## The sequence of elapses (R107) -/

/-- A number below an animation's length fits the cursor. -/
theorem ofNat_mod_toNat {len : BitVec 8} (hlen : 1 ≤ len.toNat) (n : Nat) :
    (BitVec.ofNat 8 (n % len.toNat)).toNat = n % len.toNat :=
  (BitVec.toNat_ofNat _ 8).trans (Nat.mod_eq_of_lt ((Nat.mod_lt n hlen).trans len.isLt))

theorem nextCursor_ofNat_mod {len : BitVec 8} (hlen : 1 ≤ len.toNat) (n : Nat) :
    nextCursor (BitVec.ofNat 8 (n % len.toNat)) len = BitVec.ofNat 8 ((n + 1) % len.toNat) := by
  rw [nextCursor, ofNat_mod_toNat hlen, Nat.mod_add_mod]

/-- The state after the UPDATE of the `n`-th elapse behind a forced one that left `s`, up to OI,
which the overlay pass of a copy resets. -/
def elapsed (e : CatEntry) (n : Nat) (s : State) (oi : BitVec 2) : State :=
  beginCopy e { s with cursor := BitVec.ofNat 8 (n % e.length.toNat), oi := oi }

theorem elapsed_zero (e : CatEntry) {s : State} (hcursor : s.cursor = 0) :
    elapsed e 0 s s.oi = beginCopy e { s with ap := 0 } := by
  have hzero : BitVec.ofNat 8 (0 % e.length.toNat) = s.cursor := by
    rw [hcursor, Nat.zero_mod]
    rfl
  rw [elapsed, hzero]
  rfl

/-- An elapse is followed by the one of the next frame: of the state before it only what the
timer does not write is left. -/
theorem beginCopy_elapsed {e : CatEntry} (hlen : 1 ≤ e.length.toNat) (n : Nat) (s : State)
    (oi oi' : BitVec 2) :
    beginCopy e { elapsed e n s oi with oi := oi' } = elapsed e (n + 1) s oi' := by
  rw [elapsed, elapsed, ← nextCursor_ofNat_mod hlen]
  rfl

/-- From a forced elapse with CURSOR = 0 the elapses are `rate` UPDATEs apart (R107, R112). -/
theorem afterUpdates_elapsed {s : State} {e : CatEntry} (hs : s.started = true)
    (he : catEntry s.cfg s.cur = some e) (hlen : 1 ≤ e.length.toNat) (hrate : 1 ≤ e.rate.toNat)
    (hcursor : s.cursor = 0) (hforce : s.force = true) (n : Nat) :
    ∃ oi, afterUpdates (n * (effectiveRate s e).toNat + 1) s = some (elapsed e n s oi) := by
  have hlen0 := length_ne_zero hlen
  induction n with
  | zero =>
    have hel : elapses { s with ap := 0 } = true :=
      (Bool.or_eq_true _ _).mpr (.inl hforce)
    rw [Nat.zero_mul]
    exact ⟨s.oi, (afterUpdates_succ rfl (execUpdate_of_elapse hs he hlen0 hel)).trans
      (congrArg some (elapsed_zero e hcursor).symm)⟩
  | succ n ih =>
    obtain ⟨oi, hrun⟩ := ih
    obtain ⟨oi', hnext⟩ := afterUpdates_of_elapse (s := elapsed e n s oi) hs he rfl hlen0
      (effectiveRate_pos hrate) (Nat.zero_add _)
    refine ⟨oi', ?_⟩
    rw [Nat.succ_mul, Nat.add_right_comm, afterUpdates_add hrun]
    exact hnext.trans (congrArg _ (beginCopy_elapsed hlen n s oi oi'))

/-- Settles O51: the `n`-th elapse, and `k` ticks behind it. -/
theorem elapsesShowFramesInOrder : Obligations.ElapsesShowFramesInOrder := by
  intro s e n k hwf hs ⟨hcat, _⟩ he hcursor hforce r hk
  obtain ⟨hlen, hrate, hframes⟩ := catEntry_valid (Config.wf_source hwf) hcat he
  have hr : (effectiveRate s e).toNat = r := congrArg BitVec.toNat (effectiveRate_eq s e)
  have hframe := ofNat_mod_toNat hlen n
  obtain ⟨oi, hrun⟩ := afterUpdates_elapsed hs he hlen hrate hcursor hforce n
  rw [hr] at hrun
  have hk' : (elapsed e n s oi).acc.toNat + k < (elapsed e n s oi).rateEff.toNat :=
    (Nat.zero_add k).trans_lt (hr.symm ▸ hk)
  obtain ⟨oi', rsp, hticks⟩ := afterUpdates_of_ticks (s := elapsed e n s oi) hs he rfl k hk'
  refine ⟨_, (afterUpdates_add hrun k).trans hticks, ?_, ?_,
    (counted_acc_toNat hk' _ _ _).trans (Nat.zero_add k), hr, rfl, rfl⟩
  · have hdisp := beginCopy_disp_toNat (e := e)
      (s := { s with cursor := BitVec.ofNat 8 (n % e.length.toNat), oi := oi }) hframes
      (hframe.trans_lt (Nat.mod_lt n hlen))
    rwa [hframe] at hdisp
  · exact (congrArg BitVec.toNat (nextCursor_ofNat_mod hlen n)).trans (ofNat_mod_toNat hlen (n + 1))

end Sys2Proof.Machine
end

section
/-!
What every step answers from a state that meets the invariant (spec/41_update_framecopy.md R110;
spec/20_memory.md R47, R56; spec/70_reset_and_hazards.md R206): no fault of the model, and a refusal
only where the host does what it is assumed never to do.
-/

namespace Sys2Proof.Machine

/-- The meaning answers a next state. -/
def Completes (o : Host.Outcome State Fault Refusal) : Prop := ∃ t, o = .next t

theorem completes_next (s : State) : Completes (.next s) := ⟨s, rfl⟩

theorem completes_ite {p : Prop} [Decidable p] {o o' : Host.Outcome State Fault Refusal}
    (h : p → Completes o) (h' : ¬ p → Completes o') : Completes (if p then o else o') := by
  split
  · exact h ‹_›
  · exact h' ‹_›

/-! ## The commands of the port -/

theorem execInit_completes {s : State} (hwf : s.cfg.wf = true) : Completes (execInit s) := by
  have he := List.getElem?_eq_getElem (Config.wf_defaultAnim hwf)
  refine completes_ite (fun _ => completes_ite (fun _ => completes_ite (fun _ => ?_)
    fun _ => completes_next _) fun _ => completes_next _) fun _ => completes_next _
  rw [catEntry, he]
  exact completes_next _

theorem execUpdate_completes {s : State} (hinv : BlockInv s) : Completes (execUpdate s) := by
  refine completes_ite (fun hs => ?_) fun _ => completes_next _
  obtain ⟨hcat, -, e, he, -⟩ := hinv.engine hs
  obtain ⟨hlen, -, -⟩ := catEntry_valid (Config.wf_source hinv.cfgWf) hcat he
  rw [he]
  exact completes_ite (fun _ => completes_ite (fun h0 => absurd h0 (length_ne_zero hlen))
    fun _ => completes_next _) fun _ => completes_next _

theorem command_completes {w : CmdWord} {i : Instr} {s : State} (hinv : BlockInv s)
    (hd : decode (.cmd w) = .ok i) : Completes (exec i s) := by
  have hnext := completes_next
  rcases decodeCmd_ok hd with rfl | ⟨id, rfl⟩ | ⟨ms, rfl⟩ | ⟨x, b, rfl⟩ | rfl | ⟨p, rfl⟩
  · exact execInit_completes hinv.cfgWf
  · exact completes_ite (fun _ => completes_ite (fun _ => completes_ite (fun _ => hnext _)
      fun _ => hnext _) fun _ => hnext _) fun _ => hnext _
  · exact completes_ite (fun _ => completes_ite (fun _ => hnext _) fun _ => hnext _) fun _ => hnext _
  · exact completes_ite (fun _ => completes_ite (fun _ => hnext _) fun _ => hnext _) fun _ => hnext _
  · exact execUpdate_completes hinv
  · exact completes_ite (fun _ => hnext _) fun _ => hnext _

/-- PORT has no step while no word waits (R72). -/
theorem portStep_of_none {s : State} (hcmd : s.cmd = none) : portStep s = .next s := by
  rw [portStep, hcmd]

theorem portStep_completes {s : State} (hinv : BlockInv s) : Completes (portStep s) := by
  by_cases hap : s.ap = 0
  · cases hcmd : s.cmd with
    | none =>
      rw [portStep_of_none hcmd]
      exact completes_next s
    | some w =>
      rw [portStep_of_idle hap hcmd]
      cases hd : decode (.cmd w) with
      | ok i =>
        rw [acceptWord_of_ok _ hd]
        exact command_completes (hinv.withPorts _ _ _ none _ _ _ _) hd
      | error e =>
        rw [acceptWord_of_error _ hd]
        exact completes_next _
  · rw [portStep_of_busy hap]
    exact completes_next s

/-! ## The frame-copy sequencer -/

/-- What ANIM does at each value of AP (R67, R103, R104). -/
theorem animStep_cases {s : State} (hinv : BlockInv s) :
    (s.ap = 0 ∧ animStep s = .next s) ∨
    (s.ap = 1 ∧ animStep s =
      .next (afterCopy (storeFb s (copyIndex s).toNat (s.baseByte (copyIndex s).toNat)))) ∨
    (s.ap = 2 ∧ ∃ x, iconOf s.cfg s.oi = some x ∧
      animStep s = .next (afterOverlay (storeFb s x.byte (drawnByte s x)))) := by
  have hwf := hinv.cfgWf
  have hdisp : s.disp.toNat < 167 := Config.wf_numOfFrames hwf ▸ hinv.dispLegal
  have hrun : s.ap ≠ 0 → animStep s = microStep (.aseq s.ap) s :=
    fun hap => if_pos (hinv.busyStarted hap)
  have hap : s.ap = 0 ∨ s.ap = 1 ∨ s.ap = 2 := by
    have hcases : ∀ ap : BitVec 2, ap ≠ 3 → ap = 0 ∨ ap = 1 ∨ ap = 2 := by decide
    exact hcases s.ap hinv.apLegal
  rcases hap with hap | hap | hap
  · refine .inl ⟨hap, ?_⟩
    rw [animStep, hap]
    exact ite_self _
  · refine .inr (.inl ⟨hap, ?_⟩)
    rw [hrun (hap ▸ by decide), hap]
    exact execCopyb_of_wf hwf hdisp
  · obtain ⟨x, hx⟩ := iconOf_some (c := s.cfg) hinv.oiLegal
    refine .inr (.inr ⟨hap, x, hx, ?_⟩)
    rw [hrun (hap ▸ by decide), hap]
    exact execOvlb_of_icon hwf hdisp hx

theorem animStep_completes {s : State} (hinv : BlockInv s) : Completes (animStep s) := by
  rcases animStep_cases hinv with ⟨-, h⟩ | ⟨-, h⟩ | ⟨-, x, -, h⟩ <;> exact ⟨_, h⟩

/-! ## The scanner -/

/-- Every byte of a scan cycle lies in the registered window (R23, R56, R136). -/
theorem shiftAddr_lt {s : State} {k : Nat} (hinv : BlockInv s) (hbuf : s.bufValid = true)
    (hk : k < 4) : shiftAddr s k < s.cfg.dmemSize := by
  have hwindow := hinv.window hbuf
  have hline := s.scanline.isLt
  have hspan : spanIndex s < 4 := by
    obtain ⟨⟨-, hmax⟩, -⟩ := Config.wf_timing hinv.cfgWf
    have hsi := hinv.siLegal
    unfold spanIndex
    split <;> omega
  rw [Config.wf_frameSize hinv.cfgWf] at hwindow
  rw [shiftAddr, scanOffset_eq (Config.wf_source hinv.cfgWf)]
  omega

theorem shiftOut_completes {s : State} {k : Nat} (hinv : BlockInv s) (hk : k < 4)
    (f : State → State) : Completes (shiftOut k f s) := by
  refine completes_ite (fun hbuf => ?_) fun _ => completes_next _
  rw [dmemRead_of_lt (shiftAddr_lt hinv hbuf hk)]
  exact completes_next _

theorem scanner_completes {ph : BitVec 4} {i : Instr} {s : State} (hinv : BlockInv s)
    (hd : decode (.sseq ph) = .ok i) : Completes (exec i s) := by
  rcases decodeSseq_ok hd with ⟨-, rfl⟩ | ⟨-, rfl⟩ | ⟨-, rfl⟩ | ⟨-, rfl⟩ | ⟨-, rfl⟩ | ⟨-, rfl⟩ |
    ⟨-, rfl⟩ | ⟨-, rfl⟩ | ⟨-, rfl⟩ | ⟨-, rfl⟩ | ⟨-, rfl⟩ | ⟨-, rfl⟩
  iterate 4 exact shiftOut_completes hinv (by decide) _
  all_goals exact completes_next _

theorem scanStep_completes {s : State} (hinv : BlockInv s) : Completes (scanStep s) := by
  refine completes_ite (fun _ => ?_) fun _ => completes_next s
  cases hd : decode (.sseq s.ph) with
  | ok i =>
    rw [microStep_of_ok s hd]
    exact scanner_completes hinv hd
  | error e =>
    rw [microStep, hd]
    exact completes_next s

/-! ## Every step -/

/-- What the host is assumed never to do: an access of its port at or above DMEM_SIZE (R47), or a
second word while one waits (R206). -/
def HostBreach (s : State) : Prop :=
  (∃ a v, nextChoice s = .hwrite a v ∧ s.cfg.dmemSize ≤ a.toNat) ∨
  (∃ a, nextChoice s = .hread a ∧ s.cfg.dmemSize ≤ a.toNat) ∨
  (∃ w, nextChoice s = .offer w ∧ s.cmd ≠ none)

theorem step_eq_act {s : State} {c : Choice} (hn : nextChoice s = c) :
    step s = act c (consumeChoice s) := by
  rw [step, stepOnce, hn]

/-- A step completes, or the host is refused what it is assumed never to do. -/
theorem step_completes {s : State} (hinv : BlockInv s) :
    Completes (step s) ∨ (HostBreach s ∧ ∃ r, step s = .refused r) := by
  have hu := hinv.consumeChoice
  have hsize : (consumeChoice s).cfg.dmemSize = s.cfg.dmemSize := by rw [consumeChoice_cfg]
  cases hn : nextChoice s <;> rw [step_eq_act hn]
  case scan => exact .inl (scanStep_completes hu)
  case anim => exact .inl (animStep_completes hu)
  case port => exact .inl (portStep_completes hu)
  case hwrite a v =>
    by_cases ha : a.toNat < s.cfg.dmemSize
    · exact .inl ⟨_, hostWrite_of_lt v (hsize.symm ▸ ha)⟩
    · refine .inr ⟨.inl ⟨a, v, hn, Nat.le_of_not_lt ha⟩, .hostAddressBeyondSize, ?_⟩
      rw [act, hostWrite, dmemWrite, if_neg (hsize.symm ▸ ha)]
  case hread a =>
    by_cases ha : a.toNat < s.cfg.dmemSize
    · exact .inl ⟨_, hostRead_of_lt (hsize.symm ▸ ha)⟩
    · refine .inr ⟨.inr (.inl ⟨a, hn, Nat.le_of_not_lt ha⟩), .hostAddressBeyondSize, ?_⟩
      rw [act, hostRead, dmemRead, if_neg (hsize.symm ▸ ha)]
  case offer w =>
    cases hcmd : s.cmd with
    | none => exact .inl ⟨_, offerWord_of_none w ((consumeChoice_cmd s).trans hcmd)⟩
    | some v =>
      refine .inr ⟨.inr (.inr ⟨w, hn, hcmd ▸ nofun⟩), .hostChangesWaitingWord, ?_⟩
      rw [act, offerWord, consumeChoice_cmd, hcmd]
  all_goals exact .inl (completes_next _)

/-- Settles O53. -/
theorem stepStopsOnlyOnHostBreach : Obligations.StepStopsOnlyOnHostBreach := by
  intro s hinv
  rcases step_completes hinv with ⟨t, ht⟩ | ⟨hbreach, r, hr⟩
  · rw [ht]
    exact ⟨nofun, nofun⟩
  · rw [hr]
    exact ⟨nofun, fun _ _ => hbreach⟩

end Sys2Proof.Machine
end

section
/-!
The UPDATE in progress under every interleaving (spec/41_update_framecopy.md R103 to R105, R109;
spec/70_reset_and_hazards.md R196, R200): who moves the sequencer, how long an UPDATE takes, and that
the frame is drawn as far as the sequencer has come.
-/

namespace Sys2Proof.Machine

/-! ## Who moves the sequencer -/

/-- The sequencer's place, and what it draws from: the registers COPYB and OVLB read. -/
structure SameSequencer (s t : State) : Prop where
  cfg : t.cfg = s.cfg
  en : t.en = s.en
  disp : t.disp = s.disp
  ap : t.ap = s.ap
  ci : t.ci = s.ci
  oi : t.oi = s.oi

theorem sameSequencer_consumeChoice (s : State) : SameSequencer s (consumeChoice s) :=
  ⟨consumeChoice_cfg s, consumeChoice_en s, consumeChoice_disp s, consumeChoice_ap s,
    consumeChoice_ci s, consumeChoice_oi s⟩

/-- A step of another agent than ANIM leaves the sequencer alone, reset and the acceptance of a
command apart (R72, R179). -/
theorem step_sameSequencer {s t : State} (h : step s = .next t) (hanim : nextChoice s ≠ .anim)
    (hrst : nextChoice s ≠ .rst) (hport : nextChoice s = .port → s.ap ≠ 0) :
    SameSequencer s t := by
  have hu := sameSequencer_consumeChoice s
  rcases step_next h with ⟨-, hscan⟩ | ⟨hn, -⟩ | ⟨hn, haccept⟩ | ⟨_, _, -, -, rfl⟩ |
    ⟨_, -, -, rfl⟩ | ⟨_, -, -, rfl⟩ | ⟨_, -, rfl⟩ | ⟨_, -, rfl⟩ | ⟨hn, -⟩
  · rcases hscan with ⟨-, i, hd, hx⟩ | ⟨-, rfl⟩
    · obtain ⟨-, ⟨-, hcfg, -⟩, -, -, -, -, -, -, hen, hdisp, hap, hci, hoi, -⟩ :=
        scanner_frame hd hx
      exact ⟨hcfg.trans hu.cfg, hen.trans hu.en, hdisp.trans hu.disp, hap.trans hu.ap,
        hci.trans hu.ci, hoi.trans hu.oi⟩
    · exact hu
  · exact absurd hn hanim
  · rcases haccept with ⟨hap, -⟩ | ⟨-, rfl⟩
    · exact absurd hap (hport hn)
    · exact hu
  iterate 5 exact { hu with }
  exact absurd hn hrst

/-- What an accepted command can do to the sequencer and to DISP: only UPDATE moves them (R83 to
R86, R100, R102). -/
theorem command_sequencer {w : CmdWord} {i : Instr} {s t : State} (hd : decode (.cmd w) = .ok i)
    (h : exec i s = .next t) :
    (t.ap = 1 ∧ t.ci = 0) ∨ (t.disp = s.disp ∧ (t.ap = s.ap ∨ (t.ap = 2 ∧ t.oi = 0))) := by
  rcases decodeCmd_ok hd with rfl | ⟨id, rfl⟩ | ⟨ms, rfl⟩ | ⟨x, b, rfl⟩ | rfl | ⟨p, rfl⟩
  · rcases execInit_next h with ⟨-, rfl⟩ | ⟨-, -, rfl⟩ | ⟨-, -, -, rfl⟩ | ⟨-, -, -, e, -, rfl⟩ <;>
      exact .inr ⟨rfl, .inl rfl⟩
  · rcases execSelect_next h with ⟨-, rfl⟩ | ⟨-, -, -, rfl⟩ | ⟨-, -, -, rfl⟩ <;>
      exact .inr ⟨rfl, .inl rfl⟩
  · rcases execSetrate_next h with ⟨-, rfl⟩ | ⟨-, -, rfl⟩ <;> exact .inr ⟨rfl, .inl rfl⟩
  · rcases execShowicon_next h with ⟨-, rfl⟩ | ⟨-, -, rfl⟩ <;> exact .inr ⟨rfl, .inl rfl⟩
  · rcases execUpdate_next h with ⟨-, rfl⟩ | ⟨-, e, -, ⟨-, -, rfl⟩ | ⟨-, rfl⟩⟩
    · exact .inr ⟨rfl, .inl rfl⟩
    · exact .inl ⟨rfl, rfl⟩
    · exact .inr ⟨rfl, .inr ⟨rfl, rfl⟩⟩
  · rcases execSetbuf_next h with ⟨-, rfl⟩ | ⟨-, rfl⟩ <;> exact .inr ⟨rfl, .inl rfl⟩

/-! ## How long an UPDATE takes (R105) -/

theorem stepsLeft_of_copy {s : State} (hap : s.ap = 1) : stepsLeft s = 67 - s.ci.toNat := by
  rw [stepsLeft, hap]
  rfl

theorem stepsLeft_of_overlay {s : State} (hap : s.ap = 2) : stepsLeft s = 3 - s.oi.toNat := by
  rw [stepsLeft, hap]
  rfl

theorem stepsLeft_of_idle {s : State} (hap : s.ap = 0) : stepsLeft s = 0 := by
  rw [stepsLeft, hap]
  rfl

theorem SameSequencer.stepsLeft {s t : State} (h : SameSequencer s t) :
    stepsLeft t = stepsLeft s := by
  rw [Machine.stepsLeft, Machine.stepsLeft, h.ap, h.ci, h.oi]

/-- An admitted UPDATE begins a copy or the overlay pass (R100). -/
theorem stepsLeft_execUpdate {s t : State} (hs : s.started = true) (h : execUpdate s = .next t) :
    stepsLeft t = 67 ∨ stepsLeft t = 3 := by
  rcases execUpdate_next h with ⟨hno, -⟩ | ⟨-, e, -, ⟨-, -, rfl⟩ | ⟨-, rfl⟩⟩
  · exact nomatch hs.symm.trans hno
  · exact .inl rfl
  · exact .inr rfl

/-- CI moves from 0 to 63 without a wrap (R103, R110). -/
theorem ci_succ_toNat {ci : BitVec 6} (hlast : ci ≠ 63) : (ci + 1).toNat = ci.toNat + 1 := by
  revert ci
  decide

/-- OI moves from 0 to 2 without a wrap (R104, R110). -/
theorem oi_succ_toNat {oi : BitVec 2} (hlegal : oi ≠ 3) : (oi + 1).toNat = oi.toNat + 1 := by
  revert oi
  decide

/-- One COPYB step of the 64, the last of which goes on to the overlay pass (R103). -/
theorem stepsLeft_afterCopy {s : State} (hs : s.cfg.sourceValues = true) (hap : s.ap = 1) :
    stepsLeft (afterCopy s) + 1 = stepsLeft s ∧ (afterCopy s).ap ≠ 0 ∧
      stepsLeft (afterCopy s) ≠ 0 := by
  rw [afterCopy_eq hs, stepsLeft_of_copy hap]
  split
  · rename_i hci
    rw [hci]
    exact ⟨rfl, (by decide : (2 : BitVec 2) ≠ 0), (by decide : (3 : Nat) ≠ 0)⟩
  · rename_i hci
    have hlt := s.ci.isLt
    rw [stepsLeft_of_copy (s := { s with ci := s.ci + 1 }) hap, ci_succ_toNat hci]
    exact ⟨by omega, hap ▸ (by decide : (1 : BitVec 2) ≠ 0), by omega⟩

/-- One OVLB step of the three, the last of which gives the response (R104, R105). -/
theorem stepsLeft_afterOverlay {s : State} (hap : s.ap = 2) (hoi : s.oi ≠ 3) :
    stepsLeft (afterOverlay s) + 1 = stepsLeft s ∧
      ((afterOverlay s).ap = 0 ↔ stepsLeft (afterOverlay s) = 0) ∧
      ((afterOverlay s).ap = 0 → (afterOverlay s).rsp = some .ok) := by
  rw [afterOverlay, stepsLeft_of_overlay hap]
  split
  · rename_i hlast
    rw [hlast]
    exact ⟨rfl, ⟨fun _ => rfl, fun _ => rfl⟩, fun _ => rfl⟩
  · rename_i hlast
    have hbusy : s.ap ≠ 0 := hap ▸ (by decide : (2 : BitVec 2) ≠ 0)
    have hlt : s.oi.toNat < 2 := by
      have hlow : ∀ oi : BitVec 2, oi ≠ 3 → oi ≠ 2 → oi.toNat < 2 := by decide
      exact hlow s.oi hoi hlast
    rw [stepsLeft_of_overlay (s := { s with oi := s.oi + 1 }) hap, oi_succ_toNat hoi]
    exact ⟨by omega, iff_of_false hbusy (by omega), fun h => absurd h hbusy⟩

/-- Settles O49. -/
theorem updateStepsCountDown : Obligations.UpdateStepsCountDown := by
  refine ⟨fun s t => stepsLeft_execUpdate, fun s t hinv hap h => ⟨fun hn => ?_, fun hn hrst => ?_⟩⟩
  · have hu := hinv.consumeChoice
    have hseq := sameSequencer_consumeChoice s
    rw [step_eq_act hn] at h
    rw [← hseq.stepsLeft]
    rcases animStep_cases hu with ⟨hap', -⟩ | ⟨hap', hx⟩ | ⟨hap', x, -, hx⟩
    · exact absurd (hseq.ap.symm.trans hap') hap
    · obtain rfl := next_eq (hx.symm.trans h)
      obtain ⟨hcount, hbusy, hmore⟩ :=
        stepsLeft_afterCopy (s := storeFb (consumeChoice s) _ _) (Config.wf_source hu.cfgWf) hap'
      exact ⟨hcount, iff_of_false hbusy hmore, fun h0 => absurd h0 hbusy⟩
    · obtain rfl := next_eq (hx.symm.trans h)
      exact stepsLeft_afterOverlay (s := storeFb (consumeChoice s) _ _) hap' hu.oiLegal
  · have hseq := step_sameSequencer h hn hrst fun _ => hap
    exact ⟨hseq.stepsLeft, hseq.ap⟩

/-! ## The steps of the sequencer draw the frame (R103, R104) -/

/-- After COPYB the bytes up to CI are copied; after the last one that is the whole sprite. -/
theorem afterCopy_frameOk {s : State} (hwf : s.cfg.wf = true) (hap : s.ap = 1)
    (h : CopiedBefore s (s.ci.toNat + 1)) : (afterCopy s).frameOk := by
  rw [afterCopy_eq (Config.wf_source hwf)]
  split
  · rename_i hci
    have hall : CopiedBefore s 64 := by rwa [hci] at h
    have hpic : SamePicture s { s with ap := 2, oi := 0 } := .of_dmem rfl rfl rfl
    exact frameOk_of_spriteDrawn (hpic.spriteDrawn (hall.spriteDrawn hwf)) (.inr ⟨rfl, rfl⟩)
  · rename_i hci
    have hpic : SamePicture s { s with ci := s.ci + 1 } := .of_dmem rfl rfl rfl
    rw [← ci_succ_toNat hci] at h
    exact frameOk_iff.2 ⟨fun _ => hpic.copiedBefore h, fun hne => absurd hap hne,
      fun h2 => absurd (hap.symm.trans h2) (by decide)⟩

/-- After OVLB the sprite and the icons up to OI are drawn. -/
theorem afterOverlay_frameOk {s : State} (hwf : s.cfg.wf = true) (hap : s.ap = 2)
    (hlegal : s.oi ≠ 3) (hsprite : s.spriteDrawn) (hicons : IconsDrawnBefore s (s.oi.toNat + 1)) :
    (afterOverlay s).frameOk := by
  unfold afterOverlay
  split
  · have hpic : SamePicture s (respond .ok { s with ap := 0 }) := .of_dmem rfl rfl rfl
    exact frameOk_of_spriteDrawn (hpic.spriteDrawn hsprite) (.inl rfl)
  · have hpic : SamePicture s { s with oi := s.oi + 1 } := .of_dmem rfl rfl rfl
    rw [← oi_succ_toNat hlegal] at hicons
    exact frameOk_iff.2 ⟨fun h1 => absurd (hap.symm.trans h1) (by decide),
      fun _ => hpic.spriteDrawn hsprite, fun _ x hx => hpic.iconDrawn hwf rfl (hicons x hx)⟩

/-- OVLB keeps the sprite and the icons before OI, and draws icon OI. -/
theorem drawnByte_draws {s : State} {x : Icon} (hinv : BlockInv s) (hok : s.frameOk)
    (hap : s.ap = 2) (hx : iconOf s.cfg s.oi = some x) :
    (storeFb s x.byte (drawnByte s x)).spriteDrawn ∧
      IconsDrawnBefore (storeFb s x.byte (drawnByte s x)) (s.oi.toNat + 1) := by
  obtain ⟨-, hsprite, hicons⟩ := frameOk_iff.1 hok
  have hne : s.ap ≠ 1 := hap ▸ (by decide : (2 : BitVec 2) ≠ 1)
  exact ⟨spriteDrawn_storeFb_icon hinv.memWf hx (hsprite hne),
    (hicons hap).storeFb hinv.memWf hx hinv.cfgWf⟩

/-- A step of ANIM draws what it moves past. -/
theorem animStep_frameOk {s t : State} (hinv : BlockInv s) (hok : s.frameOk)
    (h : animStep s = .next t) : t.frameOk := by
  have hwf := hinv.cfgWf
  obtain ⟨hcopy, -, -⟩ := frameOk_iff.1 hok
  rcases animStep_cases hinv with ⟨-, hx⟩ | ⟨hap, hx⟩ | ⟨hap, x, hicon, hx⟩ <;>
    obtain rfl := next_eq (hx.symm.trans h)
  · exact hok
  · exact afterCopy_frameOk (s := storeFb s _ _) hwf hap
      ((hcopy hap).storeFb hinv.memWf (copyOrder_getElem?_ci hwf))
  · obtain ⟨hsprite, hicons⟩ := drawnByte_draws hinv hok hap hicon
    exact afterOverlay_frameOk (s := storeFb s x.byte _) hwf hap hinv.oiLegal hsprite hicons

/-! ## The other agents leave the frame alone (R200) -/

theorem samePicture_consumeChoice (s : State) : SamePicture s (consumeChoice s) :=
  .of_dmem (consumeChoice_cfg s) (consumeChoice_disp s) (consumeChoice_dmem s)

theorem frameOk_consumeChoice {s : State} (hwf : s.cfg.wf = true) (hok : s.frameOk) :
    (consumeChoice s).frameOk :=
  (samePicture_consumeChoice s).frameOk hwf (consumeChoice_en s) (consumeChoice_ap s)
    (consumeChoice_ci s) (consumeChoice_oi s) hok

/-- A command accepted at rest starts an UPDATE or leaves the picture. -/
theorem command_frameOk {w : CmdWord} {i : Instr} {s t : State} (hok : s.frameOk) (hap : s.ap = 0)
    (hd : decode (.cmd w) = .ok i) (h : exec i s = .next t) : t.frameOk := by
  obtain ⟨-, hdmem, hcfg, -⟩ := command_frame hd h
  obtain ⟨-, hsprite, -⟩ := frameOk_iff.1 hok
  have hne : s.ap ≠ 1 := hap ▸ (by decide : (0 : BitVec 2) ≠ 1)
  rcases command_sequencer hd h with ⟨h1, hci⟩ | ⟨hdisp, hseq⟩
  · exact frameOk_of_copyStart h1 hci
  · exact frameOk_of_spriteDrawn ((SamePicture.of_dmem hcfg hdisp hdmem).spriteDrawn (hsprite hne))
      (hseq.imp_left (·.trans hap))

theorem portStep_frameOk {s t : State} (hok : s.frameOk) (h : portStep s = .next t) : t.frameOk := by
  by_cases hap : s.ap = 0
  · cases hcmd : s.cmd with
    | none =>
      rw [portStep_of_none hcmd] at h
      exact next_eq h ▸ hok
    | some w =>
      rw [portStep_of_idle hap hcmd] at h
      rcases acceptWord_next h with ⟨i, hd, hx⟩ | ⟨-, rfl⟩
      · exact command_frameOk (s := { s with cmd := none }) hok hap hd hx
      · exact hok
  · rw [portStep_of_busy hap] at h
    exact next_eq h ▸ hok

/-- While the host leaves the window alone only ANIM writes the frame buffer (R51, R200). -/
theorem step_fbByte {s t : State} (hinv : BlockInv s) (hw : leavesWindow s.cfg (nextChoice s))
    (hanim : nextChoice s ≠ .anim) (h : step s = .next t) (hcfg : t.cfg = s.cfg) (j : Nat)
    (hj : j < 64) : t.fbByte j = s.fbByte j := by
  rw [State.fbByte, fbAddr, hcfg]
  rcases step_dmem hinv.cfgWf h with hdmem | ⟨a, v, hn, hdmem⟩ | ⟨hn, -⟩
  · rw [hdmem]
    rfl
  · rw [hn] at hw
    have hout : s.cfg.animFbBase + j ≠ a.toNat := by
      intro heq
      exact hw (by omega)
    rw [hdmem, Memory.wf_read_write _ _ hinv.memWf, if_neg hout]
    rfl
  · exact absurd hn hanim

/-- Settles O58: ANIM draws, PORT starts a new UPDATE at rest only, and every other step leaves the
picture and the sequencer. -/
theorem stepKeepsFrameDrawn : Obligations.StepKeepsFrameDrawn := by
  intro s t hinv hok hw h
  have hwf := hinv.cfgWf
  have hu := frameOk_consumeChoice hwf hok
  by_cases hanim : nextChoice s = .anim
  · rw [step_eq_act hanim] at h
    exact animStep_frameOk hinv.consumeChoice hu h
  by_cases hport : nextChoice s = .port
  · rw [step_eq_act hport] at h
    exact portStep_frameOk hu h
  have hrst : nextChoice s ≠ .rst := fun hr => by
    rw [hr] at hw
    exact hw
  have hseq := step_sameSequencer h hanim hrst fun hn => absurd hn hport
  have hpic : SamePicture s t := ⟨hseq.cfg, hseq.disp, step_fbByte hinv hw hanim h hseq.cfg⟩
  exact hpic.frameOk hwf hseq.en hseq.ap hseq.ci hseq.oi hok

/-! ## The response (R105, R109) -/

theorem samePicture_afterOverlay (s : State) : SamePicture s (afterOverlay s) := by
  unfold afterOverlay
  split <;> exact .of_dmem rfl rfl rfl

theorem afterOverlay_en (s : State) : (afterOverlay s).en = s.en := by
  unfold afterOverlay
  split <;> rfl

theorem afterOverlay_rsp_of_last {s : State} (hlast : s.oi = 2) :
    (afterOverlay s).rsp = some .ok := by
  rw [afterOverlay, if_pos hlast, respond_rsp]

/-- Of a byte without an icon all bits are the sprite's. -/
theorem iconBits_eq_zero {c : Config} {j : Nat} (hpoo : j ≠ c.poo.byte) (hsick : j ≠ c.sick.byte)
    (hsleep : j ≠ c.sleep.byte) : iconBits c j = 0 := by
  rw [iconBits, if_neg hpoo.symm, if_neg hsick.symm, if_neg hsleep.symm]
  decide

theorem State.spriteDrawn.fbByte_eq {s : State} (h : s.spriteDrawn) {j : Nat} (hj : j < 64)
    (hbits : iconBits s.cfg j = 0) : s.fbByte j = s.baseByte j := by
  have heq := h j hj
  rw [hbits] at heq
  exact (BitVec.and_allOnes.symm.trans heq).trans BitVec.and_allOnes

/-- Settles O59: the last OVLB step draws the third icon, goes to rest and responds. -/
theorem overlayHoldsAtResponse : Obligations.OverlayHoldsAtResponse := by
  intro s t hinv hok hap hoi hn h
  have hu := hinv.consumeChoice
  have hseq := sameSequencer_consumeChoice s
  rw [step_eq_act hn] at h
  rcases animStep_cases hu with ⟨hap', -⟩ | ⟨hap', -⟩ | ⟨hap', x, hx, hrun⟩
  · exact absurd (hap'.symm.trans (hseq.ap.trans hap)) (by decide)
  · exact absurd (hap'.symm.trans (hseq.ap.trans hap)) (by decide)
  · obtain ⟨hsprite, hicons⟩ := drawnByte_draws hu (frameOk_consumeChoice hinv.cfgWf hok) hap' hx
    have hlast : (consumeChoice s).oi = 2 := hseq.oi.trans hoi
    have hall : ∀ y : BitVec 2, y ≠ 3 → y.toNat < (consumeChoice s).oi.toNat + 1 := by
      rw [hlast]
      decide
    obtain rfl := next_eq (hrun.symm.trans h)
    have hpic := samePicture_afterOverlay
      (storeFb (consumeChoice s) x.byte (drawnByte (consumeChoice s) x))
    refine ⟨afterOverlay_rsp_of_last hlast,
      fun y hy => hpic.iconDrawn hu.cfgWf (afterOverlay_en _) (hicons y (hall y hy)),
      fun j hj hpoo hsick hsleep => (hpic.spriteDrawn hsprite).fbByte_eq hj ?_⟩
    rw [hpic.cfg]
    exact (congrArg (iconBits · j) hseq.cfg).trans (iconBits_eq_zero hpoo hsick hsleep)

end Sys2Proof.Machine
end

section
/-!
The micro-steps of the scanner, each with the whole next state (spec/42_scan_engine.md R120 to
R136).
-/

namespace Sys2Proof.Machine

/-! ## Which agent has a step (R120) -/

theorem scanStep_of_running {s : State} {i : Instr} (hs : s.started = true)
    (hfault : s.fNoBuf = false) (hd : decode (.sseq s.ph) = .ok i) : scanStep s = exec i s := by
  have hen : s.scanEnabled = true := by rw [State.scanEnabled, hs, hfault]; rfl
  rw [scanStep, if_pos hen, microStep_of_ok s hd]

theorem scanStep_of_held {s : State} (h : s.started = false ∨ s.fNoBuf = true) :
    scanStep s = .next s := by
  have hen : ¬ s.scanEnabled = true := by
    rcases h with h | h <;> simp [State.scanEnabled, h]
  rw [scanStep, if_neg hen]

theorem animStep_of_held {s : State} (h : s.started = false) : animStep s = .next s :=
  if_neg (Bool.eq_false_iff.1 h)

/-- Settles O6. -/
theorem scanStepRunsSelectedOperation : Obligations.ScanStepRunsSelectedOperation :=
  fun s _ cs hs hfault hd => scanStep_of_running (s := { s with choices := cs }) hs hfault hd

/-- Settles O10. -/
theorem sequencersHeldUntilStarted : Obligations.SequencersHeldUntilStarted :=
  fun s cs => ⟨fun h => animStep_of_held (s := { s with choices := cs }) h,
    fun h => scanStep_of_held (s := { s with choices := cs }) h⟩

/-! ## The loader (R122 to R126, R136) -/

/-- The byte of the registered buffer at offset `k` from the start of scanline S (R122). -/
def scanByte (s : State) (k : Nat) : Byte :=
  Memory.read s.dmem (s.scanBase.toNat + 4 * s.scanline.toNat + k)

theorem shiftOut_of_noBuffer {s : State} (k : Nat) (f : State → State)
    (hbuf : s.bufValid = false) : shiftOut k f s = .next { s with fNoBuf := true } :=
  if_neg (Bool.eq_false_iff.1 hbuf)

/-- What the loader needs: a buffer whose window lies in DMEM, and the strides of R4. -/
structure HasBuffer (s : State) : Prop where
  source : s.cfg.sourceValues = true
  bufValid : s.bufValid = true
  window : s.scanBase.toNat + 64 ≤ s.cfg.dmemSize

/-- With a buffer a SHIFT of group `k` sends the byte at offset 16 * k, SI further on (R123,
R136). -/
theorem shiftOut_of_buffer {s : State} {k : Nat} (f : State → State) (hbuf : HasBuffer s)
    (hk : k < 4) (hspan : spanIndex s < 4) :
    shiftOut k f s = .next (f (emit (.tx (scanByte s (16 * k + spanIndex s))) s)) := by
  have haddr : shiftAddr s k =
      s.scanBase.toNat + 4 * s.scanline.toNat + (16 * k + spanIndex s) := by
    rw [shiftAddr, scanOffset_eq hbuf.source]
    omega
  have hlt : shiftAddr s k < s.cfg.dmemSize := by
    have hline := s.scanline.isLt
    have hwindow := hbuf.window
    omega
  rw [shiftOut, if_pos hbuf.bufValid, dmemRead_of_lt hlt, haddr]
  rfl

/-- SI counts the rounds of the loader; with SCAN_SPAN = 1 there is one round, and SI is 0. -/
theorem spanIndex_eq {s : State} (hsi : s.si.toNat < s.cfg.scanSpan) :
    spanIndex s = s.si.toNat := by
  unfold spanIndex
  split <;> omega

/-- SHIFT0 leaves the loader after the last round and goes round before it (R126, R136). -/
theorem afterLastGroup_eq {s : State} (hsi : s.si.toNat < s.cfg.scanSpan) :
    afterLastGroup s =
      if s.si.toNat + 1 = s.cfg.scanSpan then gotoPhase 4 { s with si := 0 }
      else gotoPhase 0 { s with si := s.si + 1 } := by
  unfold afterLastGroup
  by_cases hone : s.cfg.scanSpan = 1
  · have h0 : s.si = 0 := BitVec.eq_of_toNat_eq (Nat.lt_one_iff.1 (hone ▸ hsi))
    have hlast : s.si.toNat + 1 = s.cfg.scanSpan := by rw [hone, h0]; rfl
    rw [if_pos hone, if_pos hlast, ← h0]
  · rw [if_neg hone]

/-- Settles O27. -/
theorem shiftSendsByteOrFaults : Obligations.ShiftSendsByteOrFaults := by
  intro s
  refine ⟨fun hbuf => ?_, fun hbuf hsource hwindow hone => ?_⟩
  · have hfault := fun k f => shiftOut_of_noBuffer k f hbuf
    exact ⟨hfault _ _, hfault _ _, hfault _ _, hfault _ _⟩
  · have hspan : spanIndex s = 0 := if_pos hone
    have hsend (k : Nat) (hk : k < 4) (f : State → State) :
        shiftOut k f s = .next (f (emit (.tx (scanByte s (16 * k))) s)) := by
      simpa only [hspan, Nat.add_zero] using
        shiftOut_of_buffer f ⟨hsource, hbuf, hwindow⟩ hk (hspan ▸ by decide)
    refine ⟨hsend 3 (by decide) _, hsend 2 (by decide) _, hsend 1 (by decide) _,
      (hsend 0 (by decide) _).trans (congrArg Host.Outcome.next (if_pos hone))⟩

/-- A loader in a round of its cycle: it has a buffer, and SI is a round of SCAN_SPAN (R136). -/
structure LoaderReady (s : State) : Prop extends HasBuffer s where
  span : s.cfg.scanSpan ≤ 4
  round : s.si.toNat < s.cfg.scanSpan

theorem LoaderReady.shiftOut {s : State} (h : LoaderReady s) {k : Nat} (hk : k < 4)
    (f : State → State) :
    shiftOut k f s = .next (f (emit (.tx (scanByte s (16 * k + s.si.toNat))) s)) := by
  have hsi := spanIndex_eq h.round
  rw [← hsi]
  exact shiftOut_of_buffer f h.toHasBuffer hk (hsi ▸ h.round.trans_le h.span)

theorem LoaderReady.execShift0 {s : State} (h : LoaderReady s) :
    exec .shift0 s =
      .next (if s.si.toNat + 1 = s.cfg.scanSpan then
               { s with out := s.out ++ [.tx (scanByte s s.si.toNat)], si := 0, ph := 4 }
             else
               { s with out := s.out ++ [.tx (scanByte s s.si.toNat)], si := s.si + 1,
                        ph := 0 }) := by
  have hsend := h.shiftOut (k := 0) (by decide) afterLastGroup
  rw [Nat.mul_zero, Nat.zero_add] at hsend
  exact hsend.trans (congrArg Host.Outcome.next (afterLastGroup_eq h.round))

/-- Settles O28. -/
theorem shiftSpanGoesRound : Obligations.ShiftSpanGoesRound := by
  intro s hsource hmin hmax hsi hbuf hwindow
  have hready : LoaderReady s := ⟨⟨hsource, hbuf, hwindow⟩, hmax, hsi⟩
  have hbyte (k : Nat) : scanByte s (k + s.si.toNat) =
      Memory.read s.dmem (s.scanBase.toNat + 4 * s.scanline.toNat + k + s.si.toNat) := by
    rw [scanByte, ← Nat.add_assoc]
  have hlast : s.si.toNat + 1 = s.cfg.scanSpan ↔ s.si.toNat = s.cfg.scanSpan - 1 := by omega
  refine ⟨?_, ?_, ?_, ?_⟩
  · exact (hready.shiftOut (k := 3) (by decide) _).trans (by rw [hbyte]; rfl)
  · exact (hready.shiftOut (k := 2) (by decide) _).trans (by rw [hbyte]; rfl)
  · exact (hready.shiftOut (k := 1) (by decide) _).trans (by rw [hbyte]; rfl)
  · rw [hready.execShift0]
    simp only [hlast, Nat.add_zero, scanByte]

/-! ## The pins, the latch's hold and the scanline (R127 to R133) -/

/-- Settles O29. -/
theorem pinStepsDriveOnePin : Obligations.PinStepsDriveOnePin :=
  fun _ => ⟨⟨rfl, rfl⟩, ⟨rfl, rfl⟩, ⟨rfl, rfl⟩, ⟨rfl, rfl⟩⟩

/-- Settles O30. -/
theorem latwaitHoldsLatch : Obligations.LatwaitHoldsLatch :=
  ⟨rfl, fun _ => rfl⟩

theorem binary_code (S : BitVec 2) : RowselMap.binary.code S = (S.getLsbD 0, S.getLsbD 1) := by
  revert S
  decide

/-- Settles O31. -/
theorem rowselDrivesCodeOfScanline : Obligations.RowselDrivesCodeOfScanline :=
  ⟨rfl, fun _ => rfl, binary_code⟩

theorem execAdv_eq {s : State} (hs : s.cfg.sourceValues = true) :
    exec .adv s = .next { s with scanline := s.scanline + 1, ph := 11 } := by
  rw [← nextScanline_eq hs]
  rfl

/-- Settles O32: the sum wraps at 4, the width of S being 2 bits. -/
theorem advAdvancesScanline : Obligations.AdvAdvancesScanline :=
  ⟨rfl, fun s hs => ⟨s.scanline + 1, BitVec.toNat_add s.scanline 1, execAdv_eq hs⟩⟩

/-! ## The wait of a cycle (R134, R135) -/

theorem sleepEvents_of_full {c : Config} (h : c.oeOnMs = c.scanPeriodMs) :
    sleepEvents c = [.sleepMs c.scanPeriodMs] :=
  if_pos h

theorem sleepEvents_of_unlit {c : Config} (h : c.oeOnMs ≠ c.scanPeriodMs) (h0 : c.oeOnMs = 0) :
    sleepEvents c = [.oe false, .sleepMs c.scanPeriodMs] :=
  (if_neg h).trans (if_pos h0)

theorem sleepEvents_of_dimmed {c : Config} (h : c.oeOnMs ≠ c.scanPeriodMs) (h0 : c.oeOnMs ≠ 0) :
    sleepEvents c = [.sleepMs c.oeOnMs, .oe false, .sleepMs (c.scanPeriodMs - c.oeOnMs)] :=
  (if_neg h).trans (if_neg h0)

/-- The wait records the events of R135 and leaves OE = 0 unless the rows stay lit throughout. -/
theorem waitPeriod_of_le {s : State} (hle : s.cfg.oeOnMs ≤ s.cfg.scanPeriodMs) :
    waitPeriod s = { s with oe := s.oe && decide (s.cfg.oeOnMs = s.cfg.scanPeriodMs),
                            out := s.out ++ sleepEvents s.cfg } := by
  unfold waitPeriod
  by_cases hfull : s.cfg.oeOnMs = s.cfg.scanPeriodMs
  · simp [sleepEvents_of_full hfull, hfull, emit]
  have hlt : s.cfg.oeOnMs < s.cfg.scanPeriodMs := BitVec.lt_of_le_ne hle hfull
  by_cases h0 : s.cfg.oeOnMs = 0
  · have hpos : ¬ 0 < s.cfg.oeOnMs := h0 ▸ BitVec.lt_irrefl _
    simp only [sleepEvents_of_unlit hfull h0, if_pos hlt, if_neg hpos, decide_eq_false hfull]
    simp [h0, emit, driveOe]
  · have hpos : 0 < s.cfg.oeOnMs :=
      BitVec.lt_def.2 (Nat.pos_of_ne_zero fun hz => h0 (BitVec.eq_of_toNat_eq hz))
    simp only [sleepEvents_of_dimmed hfull h0, if_pos hlt, if_pos hpos, decide_eq_false hfull]
    simp [emit, driveOe]

theorem execSleep_eq {s : State} (hle : s.cfg.oeOnMs ≤ s.cfg.scanPeriodMs) :
    exec .sleep s =
      .next { s with oe := s.oe && decide (s.cfg.oeOnMs = s.cfg.scanPeriodMs), ph := 0,
                     out := s.out ++ sleepEvents s.cfg } :=
  congrArg (Host.Outcome.next ∘ gotoPhase 0) (waitPeriod_of_le hle)

/-- Settles O33. -/
theorem sleepWaitsScanPeriod : Obligations.SleepWaitsScanPeriod := by
  intro s hle
  have hsleep := execSleep_eq (BitVec.le_def.2 hle)
  split_ifs with hfull h0
  · simpa only [sleepEvents_of_full hfull, hfull, decide_true, Bool.and_true] using hsleep
  · simpa only [sleepEvents_of_unlit hfull h0, hfull, decide_false, Bool.and_false] using hsleep
  · refine ⟨_, BitVec.toNat_sub_of_le (BitVec.le_def.2 hle), ?_⟩
    simpa only [sleepEvents_of_dimmed hfull h0, hfull, decide_false, Bool.and_false] using hsleep

end Sys2Proof.Machine
end

section
/-!
No operation reads the transmit status or writes it (spec/42_scan_engine.md R139;
spec/60_exceptions.md R166): replacing it before a meaning or after it gives the same outcome.
-/

namespace Sys2Proof.Machine

/-- `s` with the serial primitive's answer replaced. -/
def withTx (b : Bool) (s : State) : State := { s with txStatus := b }

theorem onNext_ite (f : State → State) (p : Prop) [Decidable p]
    (o o' : Host.Outcome State Fault Refusal) :
    onNext f (if p then o else o') = if p then onNext f o else onNext f o' :=
  apply_ite _ _ _ _

theorem withTx_ite (b : Bool) (p : Prop) [Decidable p] (s t : State) :
    withTx b (if p then s else t) = if p then withTx b s else withTx b t :=
  apply_ite _ _ _ _

section
variable (b : Bool) (s : State)

/-! ## What a meaning reads of the state -/

@[simp] theorem withTx_cfg : (withTx b s).cfg = s.cfg := rfl
@[simp] theorem withTx_started : (withTx b s).started = s.started := rfl
@[simp] theorem withTx_cur : (withTx b s).cur = s.cur := rfl
@[simp] theorem withTx_oi : (withTx b s).oi = s.oi := rfl
@[simp] theorem withTx_bufValid : (withTx b s).bufValid = s.bufValid := rfl
@[simp] theorem copyIndex_withTx : copyIndex (withTx b s) = copyIndex s := rfl
@[simp] theorem sheetAddr_withTx (j : Nat) : sheetAddr (withTx b s) j = sheetAddr s j := rfl
@[simp] theorem fbAddr_withTx (j : Nat) : fbAddr (withTx b s) j = fbAddr s j := rfl
@[simp] theorem iconShown_withTx (x : BitVec 2) : iconShown (withTx b s) x = iconShown s x := rfl
@[simp] theorem shiftAddr_withTx (k : Nat) : shiftAddr (withTx b s) k = shiftAddr s k := rfl
@[simp] theorem dmemRead_withTx (a : Nat) : dmemRead (withTx b s) a = dmemRead s a := rfl

@[simp] theorem dmemWrite_withTx (a : Nat) (v : Byte) :
    dmemWrite (withTx b s) a v = (dmemWrite s a v).map (withTx b) := by
  unfold dmemWrite
  rw [apply_ite (Option.map (withTx b))]
  rfl

/-! ## The commands of the port -/

theorem execInit_withTx : execInit (withTx b s) = onNext (withTx b) (execInit s) := by
  unfold execInit
  rw [onNext_ite, onNext_ite, onNext_ite, withTx_cfg]
  cases catEntry s.cfg s.cfg.defaultAnim <;> rfl

theorem execSelect_withTx (id : BitVec 8) :
    execSelect id (withTx b s) = onNext (withTx b) (execSelect id s) := by
  unfold execSelect whenStarted
  rw [onNext_ite, onNext_ite, onNext_ite]
  rfl

theorem execSetrate_withTx (ms : BitVec 16) :
    execSetrate ms (withTx b s) = onNext (withTx b) (execSetrate ms s) := by
  unfold execSetrate whenStarted
  rw [onNext_ite, onNext_ite]
  rfl

theorem execShowicon_withTx (icon : BitVec 2) (enabled : Bool) :
    execShowicon icon enabled (withTx b s) =
      onNext (withTx b) (execShowicon icon enabled s) := by
  unfold execShowicon whenStarted
  rw [onNext_ite, onNext_ite]
  rfl

theorem execUpdate_withTx : execUpdate (withTx b s) = onNext (withTx b) (execUpdate s) := by
  unfold execUpdate whenStarted
  rw [onNext_ite, withTx_cfg, withTx_cur]
  cases catEntry s.cfg s.cur with
  | none => rfl
  | some e =>
    simp only [onNext_ite]
    rfl

theorem execSetbuf_withTx (ptr : Addr) :
    execSetbuf ptr (withTx b s) = onNext (withTx b) (execSetbuf ptr s) := by
  unfold execSetbuf
  rw [onNext_ite]
  rfl

/-! ## The frame-copy sequencer -/

theorem afterCopy_withTx : afterCopy (withTx b s) = withTx b (afterCopy s) := by
  unfold afterCopy
  rw [withTx_ite]
  rfl

theorem afterOverlay_withTx : afterOverlay (withTx b s) = withTx b (afterOverlay s) := by
  unfold afterOverlay
  rw [withTx_ite]
  rfl

theorem execCopyb_withTx : execCopyb (withTx b s) = onNext (withTx b) (execCopyb s) := by
  simp only [execCopyb, withTx_cfg, copyIndex_withTx, sheetAddr_withTx, fbAddr_withTx,
    dmemWrite_withTx]
  cases sheetRead s.cfg (sheetAddr s (copyIndex s).toNat) with
  | none => rfl
  | some v =>
    cases hw : dmemWrite s (fbAddr s (copyIndex s).toNat) v with
    | none => simp [hw, onNext]
    | some t => simp [hw, onNext, afterCopy_withTx]

theorem execOvlb_withTx : execOvlb (withTx b s) = onNext (withTx b) (execOvlb s) := by
  unfold execOvlb
  rw [withTx_cfg, withTx_oi, iconShown_withTx]
  simp only [fbAddr_withTx, sheetAddr_withTx, dmemRead_withTx, dmemWrite_withTx]
  cases iconOf s.cfg s.oi with
  | none => rfl
  | some x =>
    cases hr : dmemRead s (fbAddr s x.byte) with
    | none => simp [hr, onNext]
    | some old =>
      simp only [hr]
      cases (if iconShown s s.oi then some 0 else sheetRead s.cfg (sheetAddr s x.byte)) with
      | none => rfl
      | some base =>
        cases hw : dmemWrite s (fbAddr s x.byte)
            (overlayByte (iconShown s s.oi) x.mask old base) with
        | none => simp [hw, onNext]
        | some t => simp [hw, onNext, afterOverlay_withTx]

/-! ## The scanner -/

theorem shiftOut_withTx {f : State → State} (hf : ∀ t, f (withTx b t) = withTx b (f t))
    (k : Nat) : shiftOut k f (withTx b s) = onNext (withTx b) (shiftOut k f s) := by
  have hsent (v : Byte) := hf (emit (.tx v) s)
  unfold shiftOut
  rw [onNext_ite, withTx_bufValid, dmemRead_withTx, shiftAddr_withTx]
  cases dmemRead s (shiftAddr s k) with
  | none => rfl
  | some v => exact if_congr Iff.rfl (congrArg _ (hsent v)) rfl

theorem afterLastGroup_withTx : afterLastGroup (withTx b s) = withTx b (afterLastGroup s) := by
  unfold afterLastGroup
  rw [withTx_ite, withTx_ite]
  rfl

theorem waitPeriod_withTx : waitPeriod (withTx b s) = withTx b (waitPeriod s) := by
  unfold waitPeriod
  rw [withTx_ite, withTx_cfg]
  by_cases hlit : 0 < s.cfg.oeOnMs
  · rw [if_pos hlit, if_pos hlit]
    rfl
  · rw [if_neg hlit, if_neg hlit]
    rfl

end

/-! ## Every operation -/

/-- Settles O44. -/
theorem transmitStatusIsIgnored : Obligations.TransmitStatusIsIgnored := by
  intro s i b
  show exec i (withTx b s) = onNext (withTx b) (exec i s)
  cases i with
  | init => exact execInit_withTx b s
  | select id => exact execSelect_withTx b s id
  | setrate ms => exact execSetrate_withTx b s ms
  | showicon icon enabled => exact execShowicon_withTx b s icon enabled
  | update => exact execUpdate_withTx b s
  | setbuf ptr => exact execSetbuf_withTx b s ptr
  | copyb => exact execCopyb_withTx b s
  | ovlb => exact execOvlb_withTx b s
  | shift3 => exact shiftOut_withTx b s (f := gotoPhase 1) (fun _ => rfl) 3
  | shift2 => exact shiftOut_withTx b s (f := gotoPhase 2) (fun _ => rfl) 2
  | shift1 => exact shiftOut_withTx b s (f := gotoPhase 3) (fun _ => rfl) 1
  | shift0 => exact shiftOut_withTx b s (afterLastGroup_withTx b) 0
  | oeoff | lathi | latwait | latlo | rowsel | oeon | adv => rfl
  | sleep => exact congrArg (Host.Outcome.next ∘ gotoPhase 0) (waitPeriod_withTx b s)

end Sys2Proof.Machine
end

section
/-!
What a step does to OUT and to the pins (spec/42_scan_engine.md R121, R137;
spec/70_reset_and_hazards.md R202).
-/

namespace Sys2Proof.Machine

/-- SCAN runs the operation PH selects, or has no step. -/
theorem scanStep_next {s t : State} (h : scanStep s = .next t) :
    (∃ i, decode (.sseq s.ph) = .ok i ∧ exec i s = .next t) ∨ t = s := by
  unfold scanStep at h
  split at h
  · exact (microStep_next h).imp_right And.right
  · exact .inr (next_eq h)

/-! ## OUT (R121) -/

theorem scanStep_out_grows {s t : State} (h : scanStep s = .next t) : s.out <+: t.out := by
  rcases scanStep_next h with ⟨i, hd, hx⟩ | rfl
  · obtain ⟨-, ⟨-, -, hgrows⟩, -⟩ := scanner_frame hd hx
    exact hgrows
  · exact List.prefix_rfl

/-- Settles O42. -/
theorem traceGrowsOnlyByScanner : Obligations.TraceGrowsOnlyByScanner := by
  intro s t h hrst
  by_cases hscan : nextChoice s = .scan
  · rw [step_eq_act hscan] at h
    exact ⟨consumeChoice_out s ▸ scanStep_out_grows h, fun hn => absurd hscan hn⟩
  · obtain ⟨-, -, -, -, -, -, -, hout, -⟩ := (step_keeps h hrst).2 hscan
    exact ⟨hout ▸ List.prefix_rfl, fun _ => hout⟩

/-! ## The latch and the rows (R137, R202) -/

/-- LAT, ROW_A and ROW_B change only while OE = 0, and OE rises only while LAT = 0. -/
def SafeChange (s t : State) : Prop :=
  (t.lat ≠ s.lat ∨ t.rowA ≠ s.rowA ∨ t.rowB ≠ s.rowB → s.oe = false ∧ t.oe = false) ∧
    (s.oe = false → t.oe = true → s.lat = false ∧ t.lat = false)

theorem safeChange_of_blanked {s t : State} (hs : s.oe = false) (ht : t.oe = false) :
    SafeChange s t :=
  ⟨fun _ => ⟨hs, ht⟩, fun _ hrise => nomatch ht.symm.trans hrise⟩

theorem safeChange_of_latched {s t : State} (hlat : t.lat = s.lat) (hrowA : t.rowA = s.rowA)
    (hrowB : t.rowB = s.rowB) (hoe : t.oe = true → s.oe = true ∨ s.lat = false) :
    SafeChange s t := by
  refine ⟨fun hne => ?_, fun hs hrise => ?_⟩
  · rcases hne with hne | hne | hne
    · exact absurd hlat hne
    · exact absurd hrowA hne
    · exact absurd hrowB hne
  · rcases hoe hrise with hlit | hlow
    · exact nomatch hs.symm.trans hlit
    · exact ⟨hlow, hlat.trans hlow⟩

theorem safeChange_of_sameScanner {s t : State} (h : SameScanner s t) : SafeChange s t := by
  obtain ⟨-, -, -, hoe, hlat, hrowA, hrowB, -⟩ := h
  exact safeChange_of_latched hlat hrowA hrowB fun hrise => .inl (hoe ▸ hrise)

theorem safeChange_gotoPhase_emit (s : State) (n : BitVec 4) (e : Event) :
    SafeChange s (gotoPhase n (emit e s)) :=
  safeChange_of_latched rfl rfl rfl .inl

theorem safeChange_shiftOut {k : Nat} {f : State → State} {s t : State}
    (hf : ∀ e, SafeChange s (f (emit e s))) (h : shiftOut k f s = .next t) : SafeChange s t := by
  rcases shiftOut_next h with ⟨-, -, rfl⟩ | ⟨-, rfl⟩
  · exact hf _
  · exact safeChange_of_latched rfl rfl rfl .inl

theorem safeChange_afterLastGroup (s : State) (e : Event) :
    SafeChange s (afterLastGroup (emit e s)) := by
  unfold afterLastGroup
  split_ifs <;> exact safeChange_of_latched rfl rfl rfl .inl

/-- From OEOFF to OEON the rows are blanked (R137). -/
theorem pinsFit_blanked :
    ∀ {ph : BitVec 4} {oe lat : Bool}, 5 ≤ ph ∧ ph ≤ 9 → pinsFit ph oe lat = true → oe = false := by
  decide

/-- OEON finds the latch idle (R137). -/
theorem pinsFit_latched :
    ∀ {oe lat : Bool}, pinsFit 9 oe lat = true → lat = false := by
  decide

theorem scanner_safeChange {i : Instr} {s t : State} (hwf : s.cfg.wf = true)
    (hpins : s.pinsOk = true) (hd : decode (.sseq s.ph) = .ok i) (hx : exec i s = .next t) :
    SafeChange s t := by
  rw [pinsOk_eq_pinsFit] at hpins
  rcases decodeSseq_ok hd with ⟨-, rfl⟩ | ⟨-, rfl⟩ | ⟨-, rfl⟩ | ⟨-, rfl⟩ | ⟨-, rfl⟩ | ⟨hph, rfl⟩ |
    ⟨-, rfl⟩ | ⟨hph, rfl⟩ | ⟨hph, rfl⟩ | ⟨hph, rfl⟩ | ⟨-, rfl⟩ | ⟨-, rfl⟩
  iterate 3 exact safeChange_shiftOut (safeChange_gotoPhase_emit s _) hx
  · exact safeChange_shiftOut (safeChange_afterLastGroup s) hx
  · obtain rfl := next_eq hx
    exact safeChange_of_latched rfl rfl rfl nofun
  · rw [hph] at hpins
    have hblank := pinsFit_blanked (by decide) hpins
    obtain rfl := next_eq hx
    exact safeChange_of_blanked hblank hblank
  · obtain rfl := next_eq hx
    exact safeChange_gotoPhase_emit s _ _
  · rw [hph] at hpins
    have hblank := pinsFit_blanked (by decide) hpins
    obtain rfl := next_eq hx
    exact safeChange_of_blanked hblank hblank
  · rw [hph] at hpins
    have hblank := pinsFit_blanked (by decide) hpins
    obtain rfl := next_eq hx
    exact safeChange_of_blanked hblank hblank
  · rw [hph] at hpins
    have hidle := pinsFit_latched hpins
    obtain rfl := next_eq hx
    exact safeChange_of_latched rfl rfl rfl fun _ => .inr hidle
  · obtain rfl := next_eq hx
    exact safeChange_of_latched rfl rfl rfl .inl
  · obtain ⟨-, hle, -⟩ := Config.wf_timing hwf
    obtain rfl := next_eq ((execSleep_eq hle).symm.trans hx)
    exact safeChange_of_latched rfl rfl rfl fun hlit => .inl (Bool.and_eq_true_iff.1 hlit).1

/-- Settles O48: only a step of the scanner changes a pin, and there the phase says what the other
pins hold. -/
theorem latchAndRowsChangeWhileBlanked : Obligations.LatchAndRowsChangeWhileBlanked := by
  intro s t hinv h hrst
  show SafeChange s t
  by_cases hscan : nextChoice s = .scan
  · have hu := hinv.consumeChoice
    have hsafe : SafeChange (consumeChoice s) t := by
      rw [step_eq_act hscan] at h
      rcases scanStep_next h with ⟨i, hd, hx⟩ | rfl
      · exact scanner_safeChange hu.cfgWf hu.pins hd hx
      · exact safeChange_of_latched rfl rfl rfl .inl
    simpa only [SafeChange, consumeChoice_lat, consumeChoice_rowA, consumeChoice_rowB,
      consumeChoice_oe] using hsafe
  · exact safeChange_of_sameScanner ((step_keeps h hrst).2 hscan)

end Sys2Proof.Machine
end

section
/-!
One cycle of the scanner run alone: its events written out, the panel they light, and the steps that
append them (spec/42_scan_engine.md R122, R134 to R136, R138, R140).
-/

namespace Sys2Proof.Machine

/-! ## The events of a cycle (R135, R136, R140) -/

theorem cycleOffsets_of_span {c : Config} {n : Nat} (h : c.scanSpan = n) :
    cycleOffsets c = (List.range n).flatMap fun i => [48 + i, 32 + i, 16 + i, i] := by
  rw [cycleOffsets, h]

/-- Settles O56: the offsets of SCAN_SPAN 1 and 4, and the three forms of SLEEP. -/
theorem cycleEventsWrittenOut : Obligations.CycleEventsWrittenOut := by
  intro c S b mid
  refine ⟨fun hspan hfull => ?_, fun hspan hfull => ?_, fun hspan h0 hperiod => ?_,
    fun hspan hpos hlt => ?_⟩
  · rw [cycleEvents, cycleOffsets_of_span hspan, sleepEvents_of_full hfull]
    rfl
  · rw [cycleEvents, cycleOffsets_of_span hspan, sleepEvents_of_full hfull]
    rfl
  · rw [cycleEvents, cycleOffsets_of_span hspan,
      sleepEvents_of_unlit (h0 ▸ hperiod.symm) h0]
    rfl
  · have hdim : c.oeOnMs ≠ c.scanPeriodMs := fun h => Nat.ne_of_lt hlt (congrArg _ h)
    have hlit : c.oeOnMs ≠ 0 := fun h => Nat.ne_of_gt hpos (congrArg _ h)
    rw [cycleEvents, cycleOffsets_of_span hspan, sleepEvents_of_dimmed hdim hlit]
    rfl

/-! ## The panel (R138) -/

theorem Panel.watch_append (p : Panel) (es fs : List Event) :
    p.watch (es ++ fs) = (p.watch es).watch fs :=
  List.foldl_append

/-- Bytes pushed into the chain, the last one first; what stood deepest falls out (R138). -/
theorem Panel.watch_tx {p : Panel} {vs : List Byte} (h : vs.length ≤ p.chain.length) :
    p.watch (vs.map .tx) =
      { p with chain := vs.reverse ++ p.chain.take (p.chain.length - vs.length) } := by
  induction vs generalizing p with
  | nil => simp [Panel.watch]
  | cons v vs ih =>
    have hpush : p.watch ((v :: vs).map .tx) =
        Panel.watch { p with chain := v :: p.chain.dropLast } (vs.map .tx) := rfl
    rw [List.length_cons] at h
    have hlen : (v :: p.chain.dropLast).length = p.chain.length := by
      rw [List.length_cons, List.length_dropLast]
      omega
    have hkept : (v :: p.chain.dropLast).take (p.chain.length - vs.length) =
        v :: p.chain.take (p.chain.length - (vs.length + 1)) := by
      obtain ⟨n, hn⟩ : ∃ n, p.chain.length = vs.length + 1 + n := Nat.exists_eq_add_of_le h
      have hsub : p.chain.length - vs.length = n + 1 := by omega
      have hrest : p.chain.length - (vs.length + 1) = n := by omega
      have hmin : min n (p.chain.length - 1) = n := by omega
      rw [hsub, hrest, List.take_succ_cons, List.dropLast_eq_take, List.take_take, hmin]
    rw [hpush, ih (by rw [hlen]; omega)]
    simp only [hlen, hkept, List.length_cons, List.reverse_cons, List.append_assoc,
      List.singleton_append]

/-- Settles O57: -/
theorem panelShowsLatchedScanline : Obligations.PanelShowsLatchedScanline := by
  intro p vs a b d n h
  have hpushed := Panel.watch_tx h.le
  rw [h, Nat.sub_self, List.take_zero, List.append_nil] at hpushed
  rw [Panel.watch_append, hpushed]
  simp [Panel.watch, Panel.absorb, Panel.lit]

/-! ## Steps of the scanner alone -/

/-- `n` steps of SCAN, no other agent stepping between them, lead from `s` to `t`. -/
def ScansTo (n : Nat) (s t : State) : Prop :=
  ∀ m cs, Host.Core.run core (n + m) { s with choices := List.replicate n .scan ++ cs } =
    Host.Core.run core m { t with choices := cs }

theorem ScansTo.trans {n k : Nat} {s t u : State} (hst : ScansTo n s t) (htu : ScansTo k t u) :
    ScansTo (n + k) s u := by
  intro m cs
  rw [Nat.add_assoc, List.replicate_add, List.append_assoc]
  exact (hst (k + m) _).trans (htu m cs)

theorem run_succ_of_next {M : Host.Core} {s t : M.State} (h : M.step s = .next t) (k : Nat) :
    M.run (k + 1) s = M.run k t := by
  rw [Host.Core.run, h]

/-- One step of a running scanner is the operation PH selects, whatever choices come after it. -/
theorem scansTo_of_exec {s t : State} {i : Instr} (hrun : ScanRuns s)
    (hd : decode (.sseq s.ph) = .ok i)
    (hx : ∀ cs, exec i { s with choices := cs } = .next { t with choices := cs }) :
    ScansTo 1 s t := by
  intro m cs
  have hstep : core.step { s with choices := .scan :: cs } = .next { t with choices := cs } :=
    (scanStepRunsSelectedOperation s i cs hrun.started hrun.noFault hd).trans (hx cs)
  rw [Nat.add_comm]
  exact run_succ_of_next hstep m

/-! ## The loader, round by round (R136) -/

/-- `s` in the loader: at phase `ph`, with the trace `out`. -/
def loading (s : State) (ph : BitVec 4) (out : List Event) : State :=
  { s with ph := ph, out := out }

/-- The event of a SHIFT of group `k`. -/
def shiftEvent (s : State) (k : Nat) : Event := .tx (scanByte s (16 * k + s.si.toNat))

theorem scansTo_shift {s : State} (hrun : ScanRuns s) (hload : LoaderReady s) {k : Nat} (hk : k < 4)
    {ph : BitVec 4} {i : Instr} {f : State → State} (hd : decode (.sseq ph) = .ok i)
    (hexec : ∀ u, exec i u = shiftOut k f u)
    (hf : ∀ u cs, f { u with choices := cs } = { f u with choices := cs }) (out : List Event) :
    ScansTo 1 (loading s ph out) (f (loading s ph (out ++ [shiftEvent s k]))) := by
  refine scansTo_of_exec { hrun with } hd fun cs => ?_
  have hready : LoaderReady { loading s ph out with choices := cs } := { hload with }
  have hsent := hf (loading s ph (out ++ [shiftEvent s k])) cs
  exact (hexec _).trans ((hready.shiftOut hk f).trans (congrArg Host.Outcome.next hsent))

theorem afterLastGroup_choices (s : State) (cs : List Choice) :
    afterLastGroup { s with choices := cs } = { afterLastGroup s with choices := cs } := by
  unfold afterLastGroup
  split_ifs <;> rfl

/-- The events of round `i` of the loader: one byte of each group, the last group first. -/
def roundEvents (s : State) (i : Nat) : List Event :=
  [48 + i, 32 + i, 16 + i, i].map fun k => .tx (scanByte s k)

theorem roundEvents_eq (s : State) : roundEvents s s.si.toNat =
    [shiftEvent s 3, shiftEvent s 2, shiftEvent s 1, shiftEvent s 0] := by
  simp [roundEvents, shiftEvent]

theorem scansTo_round {s : State} (hrun : ScanRuns s) (hload : LoaderReady s) (out : List Event) :
    ScansTo 4 (loading s 0 out)
      (afterLastGroup (loading s 3 (out ++ roundEvents s s.si.toNat))) := by
  have h3 := scansTo_shift hrun hload (k := 3) (ph := 0) (f := gotoPhase 1) (by decide) rfl
    (fun _ => rfl) (fun _ _ => rfl) out
  have h2 := scansTo_shift hrun hload (k := 2) (ph := 1) (f := gotoPhase 2) (by decide) rfl
    (fun _ => rfl) (fun _ _ => rfl) (out ++ [shiftEvent s 3])
  have h1 := scansTo_shift hrun hload (k := 1) (ph := 2) (f := gotoPhase 3) (by decide) rfl
    (fun _ => rfl) (fun _ _ => rfl) (out ++ [shiftEvent s 3] ++ [shiftEvent s 2])
  have h0 := scansTo_shift hrun hload (k := 0) (ph := 3) (by decide) rfl (fun _ => rfl)
    afterLastGroup_choices (out ++ [shiftEvent s 3] ++ [shiftEvent s 2] ++ [shiftEvent s 1])
  rw [roundEvents_eq]
  simpa only [List.append_assoc, List.cons_append, List.nil_append] using
    h3.trans (h2.trans (h1.trans h0))

theorem afterLastGroup_loading {s : State} (hsi : s.si.toNat < s.cfg.scanSpan) (ph : BitVec 4)
    (out : List Event) :
    afterLastGroup (loading s ph out) =
      if s.si.toNat + 1 = s.cfg.scanSpan then loading { s with si := 0 } 4 out
      else loading { s with si := s.si + 1 } 0 out :=
  afterLastGroup_eq (s := loading s ph out) hsi

/-- SI does not wrap before the last round. -/
theorem spanIndex_succ_toNat {si : BitVec 2} {span : Nat} (hsi : si.toNat < span)
    (hspan : span ≤ 4) (hlast : si.toNat + 1 ≠ span) : (si + 1).toNat = si.toNat + 1 := by
  rw [BitVec.toNat_add]
  exact Nat.mod_eq_of_lt (show si.toNat + 1 < 4 by omega)

/-- The `k + 1` rounds left take the loader to OEOFF. -/
theorem scansTo_loaded (k : Nat) {s : State} (hrun : ScanRuns s) (hload : LoaderReady s)
    (hk : s.si.toNat + (k + 1) = s.cfg.scanSpan) (out : List Event) :
    ScansTo (4 * (k + 1)) (loading s 0 out)
      (loading { s with si := 0 } 4
        (out ++ (List.range' s.si.toNat (k + 1)).flatMap (roundEvents s))) := by
  induction k generalizing s out with
  | zero =>
    have hround := scansTo_round hrun hload out
    rw [afterLastGroup_loading hload.round, if_pos hk] at hround
    simpa [List.range'_succ] using hround
  | succ k ih =>
    have hlast : s.si.toNat + 1 ≠ s.cfg.scanSpan := by omega
    have hround := scansTo_round hrun hload out
    rw [afterLastGroup_loading hload.round, if_neg hlast] at hround
    have hsi := spanIndex_succ_toNat hload.round hload.span hlast
    have hrest := ih (s := { s with si := s.si + 1 }) { hrun with }
      { hload with round := spanIndex_succ_lt hload.round hlast } (by rw [hsi, ← hk]; omega)
      (out ++ roundEvents s s.si.toNat)
    rw [hsi, List.append_assoc] at hrest
    rw [List.range'_succ, List.flatMap_cons, Nat.mul_add 4 (k + 1), Nat.add_comm _ (4 * 1)]
    exact hround.trans hrest

/-! ## The latch, the row-select and the wait (R127 to R135) -/

/-- `s` after the loader: at phase `ph`, with these pins and the trace `out`. -/
def scanned (s : State) (ph : BitVec 4) (oe lat : Bool) (row : Bool × Bool) (out : List Event) :
    State :=
  { s with ph := ph, oe := oe, lat := lat, rowA := row.1, rowB := row.2, out := out }

/-- The events from OEOFF to OEON of the cycle of scanline `S`. -/
def latchEvents (c : Config) (S : BitVec 2) : List Event :=
  [.oe false, .lat true, .delayUs c.latchHoldUs, .lat false,
    .row (c.rowselMap.code S).1 (c.rowselMap.code S).2, .oe true]

theorem scansTo_latched {s : State} (hrun : ScanRuns s) (oe lat : Bool) (row : Bool × Bool)
    (out : List Event) :
    let code := s.cfg.rowselMap.code s.scanline
    ScansTo 6 (scanned s 4 oe lat row out)
      (scanned s 10 true false code (out ++ latchEvents s.cfg s.scanline)) := by
  intro code
  have h4 : ScansTo 1 (scanned s 4 oe lat row out)
      (scanned s 5 false lat row (out ++ [.oe false])) :=
    scansTo_of_exec (i := .oeoff) { hrun with } rfl fun _ => rfl
  have h5 (out) : ScansTo 1 (scanned s 5 false lat row out)
      (scanned s 6 false true row (out ++ [.lat true])) :=
    scansTo_of_exec (i := .lathi) { hrun with } rfl fun _ => rfl
  have h6 (out) : ScansTo 1 (scanned s 6 false true row out)
      (scanned s 7 false true row (out ++ [.delayUs s.cfg.latchHoldUs])) :=
    scansTo_of_exec (i := .latwait) { hrun with } rfl fun _ => rfl
  have h7 (out) : ScansTo 1 (scanned s 7 false true row out)
      (scanned s 8 false false row (out ++ [.lat false])) :=
    scansTo_of_exec (i := .latlo) { hrun with } rfl fun _ => rfl
  have h8 (out) : ScansTo 1 (scanned s 8 false false row out)
      (scanned s 9 false false code (out ++ [.row code.1 code.2])) :=
    scansTo_of_exec (i := .rowsel) { hrun with } rfl fun _ => rfl
  have h9 (out) : ScansTo 1 (scanned s 9 false false code out)
      (scanned s 10 true false code (out ++ [.oe true])) :=
    scansTo_of_exec (i := .oeon) { hrun with } rfl fun _ => rfl
  simpa only [latchEvents, List.append_assoc, List.cons_append, List.nil_append] using
    h4.trans ((h5 _).trans ((h6 _).trans ((h7 _).trans ((h8 _).trans (h9 _)))))

/-- ADV and SLEEP: the scanline moves on, and the period passes (R133 to R135). -/
theorem scansTo_waited {s : State} (hrun : ScanRuns s) (hwf : s.cfg.wf = true)
    (row : Bool × Bool) (out : List Event) :
    ScansTo 2 (scanned s 10 true false row out)
      (scanned { s with scanline := s.scanline + 1 } 0
        (decide (s.cfg.oeOnMs = s.cfg.scanPeriodMs)) false row (out ++ sleepEvents s.cfg)) := by
  obtain ⟨-, hle, -⟩ := Config.wf_timing hwf
  have h10 : ScansTo 1 (scanned s 10 true false row out)
      (scanned { s with scanline := s.scanline + 1 } 11 true false row out) :=
    scansTo_of_exec { hrun with } rfl fun cs =>
      execAdv_eq (s := { scanned s 10 true false row out with choices := cs })
        (Config.wf_source hwf)
  have h11 : ScansTo 1 (scanned { s with scanline := s.scanline + 1 } 11 true false row out)
      (scanned { s with scanline := s.scanline + 1 } 0
        (decide (s.cfg.oeOnMs = s.cfg.scanPeriodMs)) false row (out ++ sleepEvents s.cfg)) :=
    scansTo_of_exec { hrun with } rfl fun cs =>
      execSleep_eq (s := { scanned { s with scanline := s.scanline + 1 } 11 true false row out with
        choices := cs }) hle
  exact h10.trans h11

/-! ## The whole cycle (R140) -/

theorem cycleEvents_eq (s : State) :
    cycleEvents s.cfg s.scanline (scanByte s) =
      (List.range s.cfg.scanSpan).flatMap (roundEvents s) ++ latchEvents s.cfg s.scanline ++
        sleepEvents s.cfg := by
  rw [cycleEvents, cycleOffsets, List.map_flatMap]
  rfl

/-- Settles O55: the rounds of the loader, then the latch and the row-select, then the wait. -/
theorem scanCycleAppendsItsEvents : Obligations.ScanCycleAppendsItsEvents := by
  intro s cs hwf hstarted hfault hbuf hwindow hph hsi byteAt n
  have hrun : ScanRuns s := ⟨hstarted, hbuf, hfault⟩
  obtain ⟨⟨hmin, hmax⟩, -⟩ := Config.wf_timing hwf
  have hload : LoaderReady s :=
    ⟨⟨Config.wf_source hwf, hbuf, hwindow⟩, hmax, by rw [hsi]; exact hmin⟩
  obtain ⟨k, hk⟩ : ∃ k, s.cfg.scanSpan = k + 1 := Nat.exists_eq_succ_of_ne_zero (by omega)
  have hstart : loading s 0 s.out = s := by rw [← hph]; rfl
  have hrest : { s with si := 0 } = s := by rw [← hsi]
  have hrange : List.range' (0 : BitVec 2).toNat s.cfg.scanSpan = List.range s.cfg.scanSpan :=
    List.range_eq_range'.symm
  have hloaded := scansTo_loaded k hrun hload (by rw [hsi, hk]; exact Nat.zero_add _) s.out
  rw [hstart, hrest, hsi, ← hk, hrange] at hloaded
  have hcycle := hloaded.trans
    ((scansTo_latched hrun s.oe s.lat (s.rowA, s.rowB) _).trans (scansTo_waited hrun hwf _ _))
  rw [List.append_assoc s.out, List.append_assoc s.out, ← cycleEvents_eq, ← hph] at hcycle
  exact hcycle 0 cs

end Sys2Proof.Machine
end

section
/-!
OUT is the concatenation of the scan cycles of scanlines 0, 1, 2, 3, 0, ..., up to the bytes sent,
under every interleaving (spec/42_scan_engine.md R121, R135 to R137, R140).
-/

namespace Sys2Proof.Machine

/-! ## The shape of a cycle -/

theorem length_cycleOffsets (c : Config) : (cycleOffsets c).length = 4 * c.scanSpan := by
  simp [cycleOffsets, Nat.mul_comm]

theorem cycleShape_eq (c : Config) (S : BitVec 2) :
    cycleShape c S =
      List.replicate (4 * c.scanSpan) (.tx 0) ++ (latchEvents c S ++ sleepEvents c) := by
  rw [cycleShape, cycleEvents, List.map_const', length_cycleOffsets, List.append_assoc]
  rfl

/-- In the loader the next event is a byte. -/
theorem cycleShape_getElem?_load {c : Config} {S : BitVec 2} {k : Nat} (hk : k < 4 * c.scanSpan) :
    (cycleShape c S)[k]? = some (.tx 0) := by
  rw [cycleShape_eq, List.getElem?_append_left (by rwa [List.length_replicate]),
    List.getElem?_replicate_of_lt hk]

/-- After the loader the next event is one of the latch's. -/
theorem cycleShape_getElem?_latch {c : Config} {S : BitVec 2} {k : Nat} (hk : k < 6) :
    (cycleShape c S)[4 * c.scanSpan + k]? = (latchEvents c S)[k]? := by
  rw [cycleShape_eq, List.getElem?_append_right (by rw [List.length_replicate]; omega),
    List.length_replicate, Nat.add_sub_cancel_left, List.getElem?_append_left hk]

/-- Before SLEEP the rest of the cycle is the wait. -/
theorem cycleShape_eq_take_append (c : Config) (S : BitVec 2) :
    cycleShape c S = (cycleShape c S).take (4 * c.scanSpan + 6) ++ sleepEvents c := by
  have hlen : (List.replicate (4 * c.scanSpan) (Event.tx 0) ++ latchEvents c S).length =
      4 * c.scanSpan + 6 := by
    rw [List.length_append, List.length_replicate]
    rfl
  rw [cycleShape_eq, ← List.append_assoc, List.take_left' hlen]

theorem map_eventShape_sleepEvents (c : Config) :
    (sleepEvents c).map eventShape = sleepEvents c := by
  unfold sleepEvents
  split_ifs <;> rfl

/-! ## What the scanner has emitted -/

theorem emitted_of_loading {s : State} {p : Nat} (hph : s.ph.toNat = p) (hp : p < 4) :
    s.emitted = 4 * s.si.toNat + p := by
  rw [State.emitted, hph, if_pos hp]

theorem emitted_of_latching {s : State} {p : Nat} (hph : s.ph.toNat = 4 + p) (hp : p ≤ 6) :
    s.emitted = 4 * s.cfg.scanSpan + p := by
  rw [State.emitted, hph, if_neg (by omega), Nat.add_sub_cancel_left, Nat.min_eq_left hp]

/-- OUT, the phase, SI and S decide whether the trace is right. -/
theorem traceOk_of_same {s t : State} (hok : s.traceOk) (hcfg : t.cfg = s.cfg)
    (hout : t.out = s.out) (hline : t.scanline = s.scanline) (hph : t.ph = s.ph)
    (hsi : t.si = s.si) : t.traceOk := by
  simpa only [State.traceOk, State.emitted, hcfg, hout, hline, hph, hsi] using hok

theorem traceOk_of_reset {s : State} (hout : s.out = []) (hph : s.ph = 0) (hsi : s.si = 0)
    (hline : s.scanline = 0) : s.traceOk := by
  refine ⟨0, ?_, ?_, fun _ => hsi⟩
  · have hemit : s.emitted = 0 := by simp [State.emitted, hph, hsi]
    simp [hout, hemit]
  · rw [hline, hph]
    rfl

/-! ## The steps that emit one event -/

/-- One event more, the next one of the present cycle. -/
theorem traceOk_of_emit {s t : State} {e : Event} (hok : s.traceOk) (hcfg : t.cfg = s.cfg)
    (hout : t.out = s.out ++ [e]) (hline : t.scanline = s.scanline) (hph : s.ph.toNat < 11)
    (hph' : t.ph.toNat < 11) (hemit : t.emitted = s.emitted + 1)
    (hnext : (cycleShape s.cfg s.scanline)[s.emitted]? = some (eventShape e))
    (hsi : 4 ≤ t.ph.toNat → t.si = 0) : t.traceOk := by
  have hbefore {ph : BitVec 4} (h : ph.toNat < 11) : ph ≠ 11 := fun heq => by
    rw [heq] at h
    exact absurd h (by decide)
  obtain ⟨n, htrace, hS, -⟩ := hok
  rw [if_neg (hbefore hph)] at hS
  refine ⟨n, ?_, by rw [hline, hS, if_neg (hbefore hph')], hsi⟩
  rw [hS] at hnext
  rw [hout, hcfg, hemit, List.map_append, htrace, List.take_add_one, hnext, List.append_assoc]
  rfl

/-- A SHIFT in the middle of a round. -/
theorem traceOk_shift {s : State} {ph n : BitVec 4} (hok : s.traceOk)
    (hsi : s.si.toNat < s.cfg.scanSpan) (hph : s.ph = ph) (hlt : ph.toNat < 3)
    (hn : n.toNat = ph.toNat + 1) (v : Byte) : (gotoPhase n (emit (.tx v) s)).traceOk := by
  have hat : s.ph.toNat = ph.toNat := congrArg _ hph
  have hto : (gotoPhase n (emit (.tx v) s)).ph.toNat = ph.toNat + 1 := hn
  have hemit := emitted_of_loading hat (by omega)
  have hemit' := emitted_of_loading hto (by omega)
  refine traceOk_of_emit hok rfl rfl rfl (by omega) (by omega) ?_ ?_ fun h => by omega
  · rw [hemit, hemit']
    rfl
  · exact cycleShape_getElem?_load (by omega)

/-- SHIFT0 ends a round: the next one begins, or SI is 0 again. -/
theorem traceOk_afterLastGroup {s : State} (hok : s.traceOk) (hsi : s.si.toNat < s.cfg.scanSpan)
    (hspan : s.cfg.scanSpan ≤ 4) (hph : s.ph = 3) (v : Byte) :
    (afterLastGroup (emit (.tx v) s)).traceOk := by
  have hat : s.ph.toNat = 3 := hph ▸ rfl
  have hemit := emitted_of_loading hat (by decide)
  have hnext : (cycleShape s.cfg s.scanline)[s.emitted]? = some (.tx 0) :=
    cycleShape_getElem?_load (by omega)
  rw [afterLastGroup_eq (s := emit (.tx v) s) hsi]
  split_ifs with hlast
  · have hdone : s.si.toNat + 1 = s.cfg.scanSpan := hlast
    refine traceOk_of_emit hok rfl rfl rfl (by omega) (by decide : (4 : BitVec 4).toNat < 11) ?_
      hnext fun _ => rfl
    rw [hemit, emitted_of_latching (p := 0) rfl (by decide)]
    show 4 * s.cfg.scanSpan + 0 = 4 * s.si.toNat + 3 + 1
    omega
  · refine traceOk_of_emit hok rfl rfl rfl (by omega) (by decide : (0 : BitVec 4).toNat < 11) ?_
      hnext nofun
    rw [hemit, emitted_of_loading (p := 0) rfl (by decide)]
    show 4 * (s.si + 1).toNat + 0 = 4 * s.si.toNat + 3 + 1
    rw [spanIndex_succ_toNat hsi hspan hlast]
    omega

/-- A step from OEOFF to OEON. -/
theorem traceOk_latch {s t : State} {ph : BitVec 4} {e : Event} (hok : s.traceOk)
    (hcfg : t.cfg = s.cfg) (hout : t.out = s.out ++ [e]) (hline : t.scanline = s.scanline)
    (hsi : t.si = s.si) (hph : s.ph = ph) (hmin : 4 ≤ ph.toNat) (hmax : ph.toNat < 10)
    (hph' : t.ph.toNat = ph.toNat + 1)
    (hnext : (latchEvents s.cfg s.scanline)[ph.toNat - 4]? = some (eventShape e)) : t.traceOk := by
  have hat : s.ph.toNat = ph.toNat := congrArg _ hph
  have hemit := emitted_of_latching (s := s) (p := ph.toNat - 4) (by omega) (by omega)
  have hemit' := emitted_of_latching (s := t) (p := ph.toNat - 4 + 1) (by omega) (by omega)
  have ⟨_, _, _, hzero⟩ := hok
  refine traceOk_of_emit hok hcfg hout hline (by omega) (by omega) ?_ ?_
    fun _ => hsi.trans (hzero (by omega))
  · rw [hemit, hemit', hcfg]
    rfl
  · rw [hemit, cycleShape_getElem?_latch (by omega)]
    exact hnext

/-! ## ADV and SLEEP -/

theorem traceOk_adv {s : State} (hok : s.traceOk) (hph : s.ph = 10) :
    State.traceOk { s with scanline := s.scanline + 1, ph := 11 } := by
  have hemit := emitted_of_latching (s := s) (p := 6) (hph ▸ rfl) (by decide)
  obtain ⟨n, htrace, hS, hzero⟩ := hok
  refine ⟨n, ?_, ?_, fun _ => hzero (hph ▸ by decide)⟩
  · rw [hemit] at htrace
    exact htrace
  · rw [hS, hph]
    exact (BitVec.ofNat_add n 1).symm

theorem traceOk_sleep {s : State} (oe : Bool) (hok : s.traceOk) (hph : s.ph = 11) :
    State.traceOk { s with oe := oe, ph := 0, out := s.out ++ sleepEvents s.cfg } := by
  obtain ⟨n, htrace, hS, hzero⟩ := hok
  have hsi : s.si = 0 := hzero (hph ▸ by decide)
  have hemit : s.emitted = 4 * s.cfg.scanSpan + 6 := by
    simp [State.emitted, hph]
  refine ⟨n + 1, ?_, ?_, fun _ => hsi⟩
  · have hnone :
        State.emitted { s with oe := oe, ph := 0, out := s.out ++ sleepEvents s.cfg } = 0 := by
      simp [State.emitted, hsi]
    rw [hnone, List.map_append, htrace, hemit, map_eventShape_sleepEvents, List.append_assoc,
      ← cycleShape_eq_take_append, List.range_succ, List.flatMap_append]
    simp
  · rw [hS, hph]
    rfl

/-! ## Every step -/

theorem scanner_traceOk {i : Instr} {s t : State} (hwf : s.cfg.wf = true)
    (hsi : s.si.toNat < s.cfg.scanSpan) (hok : s.traceOk) (hd : decode (.sseq s.ph) = .ok i)
    (hx : exec i s = .next t) : t.traceOk := by
  obtain ⟨⟨-, hspan⟩, hle, -⟩ := Config.wf_timing hwf
  have hload {k : Nat} {f : State → State} (hf : ∀ v, (f (emit (.tx v) s)).traceOk)
      (h : shiftOut k f s = .next t) : t.traceOk := by
    rcases shiftOut_next h with ⟨-, -, rfl⟩ | ⟨-, rfl⟩
    · exact hf _
    · exact traceOk_of_same hok rfl rfl rfl rfl rfl
  rcases decodeSseq_ok hd with ⟨hph, rfl⟩ | ⟨hph, rfl⟩ | ⟨hph, rfl⟩ | ⟨hph, rfl⟩ | ⟨hph, rfl⟩ |
    ⟨hph, rfl⟩ | ⟨hph, rfl⟩ | ⟨hph, rfl⟩ | ⟨hph, rfl⟩ | ⟨hph, rfl⟩ | ⟨hph, rfl⟩ | ⟨hph, rfl⟩
  iterate 3 exact hload (traceOk_shift hok hsi hph (by decide) rfl) hx
  · exact hload (traceOk_afterLastGroup hok hsi hspan hph) hx
  iterate 6
    · obtain rfl := next_eq hx
      exact traceOk_latch hok rfl rfl rfl rfl hph (by decide) (by decide) rfl rfl
  · obtain rfl := next_eq ((execAdv_eq (Config.wf_source hwf)).symm.trans hx)
    exact traceOk_adv hok hph
  · obtain rfl := next_eq ((execSleep_eq hle).symm.trans hx)
    exact traceOk_sleep _ hok hph

/-- No step writes the configuration (R206). -/
theorem step_cfg {s t : State} (h : step s = .next t) : t.cfg = s.cfg := by
  have hkept : (consumeChoice s).cfg = s.cfg := consumeChoice_cfg s
  rcases step_next h with ⟨-, hscan⟩ | ⟨-, hanim⟩ | ⟨-, hport⟩ | ⟨_, _, -, -, rfl⟩ |
    ⟨_, -, -, rfl⟩ | ⟨_, -, -, rfl⟩ | ⟨_, -, rfl⟩ | ⟨_, -, rfl⟩ | ⟨-, rfl⟩
  · rcases hscan with ⟨-, i, hd, hx⟩ | ⟨-, rfl⟩
    · obtain ⟨-, ⟨-, hcfg, -⟩, -⟩ := scanner_frame hd hx
      exact hcfg.trans hkept
    · exact hkept
  · rcases hanim with ⟨-, i, hd, hx⟩ | ⟨-, rfl⟩
    · obtain ⟨-, -, hcfg, -⟩ := engine_frame hd hx
      exact hcfg.trans hkept
    · exact hkept
  · rcases hport with ⟨-, w, -, ⟨i, hd, hx⟩ | ⟨-, rfl⟩⟩ | ⟨-, rfl⟩
    · obtain ⟨-, -, hcfg, -⟩ := command_frame hd hx
      exact hcfg.trans hkept
    · exact hkept
    · exact hkept
  all_goals exact hkept

/-- Settles O54: reset begins the trace again, a step of the scanner adds the next event of the
present cycle, and no other step touches what the trace is read from. -/
theorem traceIsConcatenationOfCycles : Obligations.TraceIsConcatenationOfCycles := by
  intro s t hwf _ hsi hok h
  by_cases hrst : nextChoice s = .rst
  · obtain rfl := next_eq ((step_eq_act hrst).symm.trans h)
    exact traceOk_of_reset rfl rfl rfl rfl
  by_cases hscan : nextChoice s = .scan
  · have hu : (consumeChoice s).traceOk := traceOk_of_same hok (consumeChoice_cfg s)
      (consumeChoice_out s) (consumeChoice_scanline s) (consumeChoice_ph s) (consumeChoice_si s)
    rw [step_eq_act hscan] at h
    rcases scanStep_next h with ⟨i, hd, hx⟩ | rfl
    · exact scanner_traceOk (by rwa [consumeChoice_cfg])
        (by rwa [consumeChoice_cfg, consumeChoice_si]) hu hd hx
    · exact hu
  · obtain ⟨hline, hph, hsame, -, -, -, -, hout, -⟩ := (step_keeps h hrst).2 hscan
    exact traceOk_of_same hok (step_cfg h) hout hline hph hsame

end Sys2Proof.Machine
end

section
/-!
The buffer pointer (spec/43_buffer_handoff.md R150, R154): SETBUF read as a conditional equation.
-/

namespace Sys2Proof.Machine

/-- The check of the window fails exactly where the exact sum is past DMEM (R150). -/
theorem windowInDmem_eq_false_iff {c : Config} {ptr : Addr} :
    windowInDmem c ptr = false ↔ c.dmemSize < ptr.toNat + c.frameSize :=
  decide_eq_false_iff_not.trans Nat.not_le

theorem execSetbuf_eq (ptr : Addr) (s : State) :
    execSetbuf ptr s =
      if s.cfg.dmemSize < ptr.toNat + s.cfg.frameSize then .next (reject s)
      else .next (respond .ok { s with scanBase := ptr, bufValid := true }) := by
  simp only [execSetbuf, ← windowInDmem_eq_false_iff, ← Bool.not_eq_true, ite_not]

/-- Settles O21: the pointer and the configuration's sizes alone decide the branch. -/
theorem setbufRegistersWindow : Obligations.SetbufRegistersWindow := by
  intro s ptr
  have heq := execSetbuf_eq ptr s
  split_ifs with hpast
  · exact heq.trans (if_pos hpast)
  · exact heq.trans (if_neg hpast)

end Sys2Proof.Machine
end

section
/-!
Faults and rejections (spec/60_exceptions.md R160 to R170, R181): a command is rejected in exactly
the cases of R164, each event sets its STATUS bit, and after a failed INIT the panel stays blank.
-/

namespace Sys2Proof.Machine

/-! ## When a command is rejected (R164) -/

/-- From `s` to `t` E_REJ is left alone, and `t` does not answer REJECTED. -/
def NotRejected (s t : State) : Prop := t.eRej = s.eRej ∧ t.rsp ≠ some .rejected

theorem notRejected_of_next {s t u : State}
    (h : (.next u : Host.Outcome State Fault Refusal) = .next t) (hu : NotRejected s u) :
    NotRejected s t :=
  next_eq h ▸ hu

/-- `o` rejects the command in `s` where `p` holds, and does not reject it elsewhere. -/
def RejectsExactlyWhen (p : Prop) (s : State) (o : Host.Outcome State Fault Refusal) : Prop :=
  (p → o = .next (reject s)) ∧ (¬ p → ∀ t, o = .next t → NotRejected s t)

/-- The cases (b) to (g) of R164, by the command that a word decodes to. -/
def commandCause (s : State) : Instr → Prop
  | .init => s.started = true ∨ s.fConfig = true ∨ s.fResource = true
  | .select id => s.started = false ∨ s.cfg.numAnims ≤ id.toNat
  | .setrate ms => s.started = false ∨ ms = 0
  | .showicon icon _ => s.started = false ∨ icon = 3
  | .update => s.started = false
  | .setbuf ptr => s.cfg.dmemSize < ptr.toNat + s.cfg.frameSize
  | .copyb | .ovlb | .shift3 | .shift2 | .shift1 | .shift0 | .oeoff | .lathi | .latwait | .latlo
  | .rowsel | .oeon | .adv | .sleep => False

theorem rejectsExactlyWhen_of_eq {p : Prop} {_ : Decidable p} {s : State}
    {o k : Host.Outcome State Fault Refusal} (heq : o = if p then .next (reject s) else k)
    (hk : ∀ t, k = .next t → NotRejected s t) :
    RejectsExactlyWhen p s o :=
  ⟨fun hp => heq.trans (if_pos hp), fun hp => by rwa [heq, if_neg hp]⟩

theorem execInit_rejectsExactlyWhen (s : State) :
    RejectsExactlyWhen (commandCause s .init) s (execInit s) := by
  refine ⟨fun hp => if_neg fun hadm => initAdmitted_iff.1 hadm hp, fun hp t ht => ?_⟩
  rcases execInit_next ht with ⟨hadm, -⟩ | ⟨-, -, rfl⟩ | ⟨-, -, -, rfl⟩ | ⟨-, -, -, e, -, rfl⟩
  · exact absurd (initAdmitted_iff.2 hp) (Bool.eq_false_iff.1 hadm)
  all_goals exact ⟨rfl, nofun⟩

theorem execUpdate_rejectsExactlyWhen (s : State) :
    RejectsExactlyWhen (commandCause s .update) s (execUpdate s) := by
  refine ⟨fun hp => if_neg (Bool.eq_false_iff.1 hp), fun hp t ht => ?_⟩
  rcases execUpdate_next ht with ⟨hs, -⟩ | ⟨-, e, -, ⟨-, -, rfl⟩ | ⟨-, rfl⟩⟩
  · exact absurd hs hp
  all_goals exact ⟨rfl, nofun⟩

theorem command_rejectsExactlyWhen {w : CmdWord} {i : Instr} (s : State)
    (hd : decode (.cmd w) = .ok i) : RejectsExactlyWhen (commandCause s i) s (exec i s) := by
  rcases decodeCmd_ok hd with rfl | ⟨id, rfl⟩ | ⟨ms, rfl⟩ | ⟨icon, b, rfl⟩ | rfl | ⟨ptr, rfl⟩
  · exact execInit_rejectsExactlyWhen s
  · refine rejectsExactlyWhen_of_eq (execSelect_eq id s) fun t ht => ?_
    split_ifs at ht <;> exact notRejected_of_next ht ⟨rfl, nofun⟩
  · exact rejectsExactlyWhen_of_eq (execSetrate_eq ms s) fun _ ht =>
      notRejected_of_next ht ⟨rfl, nofun⟩
  · exact rejectsExactlyWhen_of_eq (execShowicon_eq icon b s) fun _ ht =>
      notRejected_of_next ht ⟨rfl, nofun⟩
  · exact execUpdate_rejectsExactlyWhen s
  · exact rejectsExactlyWhen_of_eq (execSetbuf_eq ptr s) fun _ ht =>
      notRejected_of_next ht ⟨rfl, nofun⟩

/-- The cases of R164 by the two fields of the word. -/
theorem rejectCause_cmdWord_iff {op : BitVec 4} {arg : BitVec 16} {s : State} :
    rejectCause (cmdWord op arg) s = true ↔
      reservedWord (cmdWord op arg) = true ∨
        (op.toNat = 1 ∧ (s.started = true ∨ s.fConfig = true ∨ s.fResource = true)) ∨
        ((2 ≤ op.toNat ∧ op.toNat ≤ 5) ∧ s.started = false) ∨
        (op.toNat = 2 ∧ s.cfg.numAnims ≤ arg.toNat) ∨ (op.toNat = 3 ∧ arg.toNat = 0) ∨
        (op.toNat = 4 ∧ arg.toNat % 4 = 3) ∨
        (op.toNat = 6 ∧ s.cfg.dmemSize < arg.toNat + s.cfg.frameSize) := by
  simp only [rejectCause, ← cmdOp_toNat, ← cmdArg_toNat, cmdOp_cmdWord, cmdArg_cmdWord,
    Bool.or_eq_true, Bool.and_eq_true, Bool.not_eq_true', decide_eq_true_eq, or_assoc]

/-- SELECT's id is its operand (R62). -/
theorem select_operand_toNat (id : BitVec 8) : (0#8 ++ id).toNat = id.toNat := by
  rw [BitVec.toNat_append]
  simp

/-- SHOWICON's icon is its operand modulo 4 (R62). -/
theorem showicon_operand_mod (icon : BitVec 2) (b : Bool) :
    (0#13 ++ BitVec.ofBool b ++ icon).toNat % 4 = 3 ↔ icon = 3 := by
  revert icon b
  decide

/-- For a word that decodes to a command, the cases of R164 are the ones of that command. -/
theorem rejectCause_iff_commandCause {w : CmdWord} {i : Instr} {s : State}
    (hd : decode (.cmd w) = .ok i) : rejectCause w s = true ↔ commandCause s i := by
  have hres : ¬ reservedWord w = true := by
    intro h
    obtain ⟨e, he⟩ := reservedWord_iff_decode_error.1 h
    cases hd.symm.trans he
  have henc := encode_of_decode_cmd hd
  rcases decodeCmd_ok hd with rfl | ⟨id, rfl⟩ | ⟨ms, rfl⟩ | ⟨icon, b, rfl⟩ | rfl | ⟨ptr, rfl⟩
  all_goals
    obtain rfl := Code.cmd.inj henc
    rw [rejectCause_cmdWord_iff, or_iff_right hres]
  · simp [commandCause]
  · simp only [select_operand_toNat, commandCause]
    simp
  · simp [commandCause, ← BitVec.toNat_inj]
  · simp [commandCause, showicon_operand_mod]
  · simp [commandCause]
  · simp [commandCause]

/-- A waiting word is rejected in exactly the cases of R164: (a) where the decoder refuses it, (b)
to (g) by the command it decodes to. -/
theorem acceptWord_rejectsExactlyWhen (w : CmdWord) (s : State) :
    RejectsExactlyWhen (rejectCause w s = true) s (acceptWord w s) := by
  cases hd : decode (.cmd w) with
  | error e =>
    have hcause : rejectCause w s = true := by
      obtain ⟨op, arg, rfl⟩ := exists_cmdWord w
      exact rejectCause_cmdWord_iff.2 (.inl (reservedWord_iff_decode_error.2 ⟨e, hd⟩))
    exact ⟨fun _ => acceptWord_of_error s hd, fun hno => absurd hcause hno⟩
  | ok i =>
    rw [acceptWord_of_ok s hd, rejectCause_iff_commandCause hd]
    exact command_rejectsExactlyWhen s hd

/-- Settles O24. -/
theorem commandRejectedExactlyWhenCauseHolds :
    Obligations.CommandRejectedExactlyWhenCauseHolds := by
  intro s w cs hap hcmd
  have hstep : step { s with choices := .port :: cs } =
      acceptWord w { s with choices := cs, cmd := none } :=
    portStep_of_idle (s := { s with choices := cs }) hap hcmd
  obtain ⟨hyes, hno⟩ := acceptWord_rejectsExactlyWhen w { s with choices := cs, cmd := none }
  rw [hstep]
  exact ⟨hyes, fun hcause => hno (Bool.eq_false_iff.1 hcause)⟩

/-! ## The STATUS bit of each event (R160) -/

/-- The five flags of STATUS as a word, the first one lowest (R26). -/
def statusWord (b₀ b₁ b₂ b₃ b₄ : Bool) : BitVec 5 :=
  BitVec.ofBool b₄ ++ BitVec.ofBool b₃ ++ BitVec.ofBool b₂ ++ BitVec.ofBool b₁ ++ BitVec.ofBool b₀

theorem status_eq_statusWord (s : State) :
    s.status = statusWord s.started s.fConfig s.fResource s.fNoBuf s.eRej := rfl

/-- Setting one flag sets its bit of the word and no other. -/
theorem statusWord_set_flag : ∀ b₀ b₁ b₂ b₃ b₄ : Bool,
    statusWord b₀ true b₂ b₃ b₄ = statusWord b₀ b₁ b₂ b₃ b₄ ||| 0b00010#5 ∧
    statusWord b₀ b₁ true b₃ b₄ = statusWord b₀ b₁ b₂ b₃ b₄ ||| 0b00100#5 ∧
    statusWord b₀ b₁ b₂ true b₄ = statusWord b₀ b₁ b₂ b₃ b₄ ||| 0b01000#5 ∧
    statusWord b₀ b₁ b₂ b₃ true = statusWord b₀ b₁ b₂ b₃ b₄ ||| 0b10000#5 := by
  decide

/-- The bit of STATUS that each event of R160 sets. -/
theorem event_status (s : State) :
    (raiseFault .config s).status = s.status ||| 0b00010#5 ∧
    (raiseFault .resource s).status = s.status ||| 0b00100#5 ∧
    (raiseFault .noBuf s).status = s.status ||| 0b01000#5 ∧
    (reject s).status = s.status ||| 0b10000#5 :=
  statusWord_set_flag s.started s.fConfig s.fResource s.fNoBuf s.eRej

/-- Where a SHIFT micro-step goes, STATUS and the response are as before. -/
theorem afterLastGroup_status_rsp (s : State) :
    (afterLastGroup s).status = s.status ∧ (afterLastGroup s).rsp = s.rsp := by
  unfold afterLastGroup
  split_ifs <;> exact ⟨rfl, rfl⟩

/-- The four SHIFT micro-steps are one operation, whose sequel leaves STATUS and the response. -/
theorem shift_eq_shiftOut {i : Instr} (hi : i ∈ [.shift3, .shift2, .shift1, .shift0]) :
    ∃ k f, (∀ s, exec i s = shiftOut k f s) ∧
      ∀ s, (f s).status = s.status ∧ (f s).rsp = s.rsp := by
  simp only [List.mem_cons, List.not_mem_nil, or_false] at hi
  rcases hi with rfl | rfl | rfl | rfl
  · exact ⟨3, gotoPhase 1, fun _ => rfl, fun _ => ⟨rfl, rfl⟩⟩
  · exact ⟨2, gotoPhase 2, fun _ => rfl, fun _ => ⟨rfl, rfl⟩⟩
  · exact ⟨1, gotoPhase 3, fun _ => rfl, fun _ => ⟨rfl, rfl⟩⟩
  · exact ⟨0, afterLastGroup, fun _ => rfl, afterLastGroup_status_rsp⟩

/-- Settles O38. -/
theorem eventsSetStatusBitAndCode : Obligations.EventsSetStatusBitAndCode := by
  refine ⟨fun s hs hconfig hresource => ?_, fun s i hi => ?_, fun s w cs hap hcmd hcause => ?_⟩
  · obtain ⟨hbit1, hbit2, -⟩ := event_status s
    have hadm : initAdmitted s = true := initAdmitted_iff.2 (by simp [hs, hconfig, hresource])
    refine ⟨fun hcat => ?_, fun hcat hplat => ?_⟩
    · exact ⟨_, (if_pos hadm).trans (if_neg (Bool.eq_false_iff.1 hcat)), hbit1, rfl⟩
    · exact ⟨_, (if_pos hadm).trans ((if_pos hcat).trans (if_neg (Bool.eq_false_iff.1 hplat))),
        hbit2, rfl⟩
  · obtain ⟨k, f, hexec, hkeeps⟩ := shift_eq_shiftOut hi
    obtain ⟨-, -, hbit3, -⟩ := event_status s
    rw [hexec]
    refine ⟨fun hbuf => ⟨_, shiftOut_of_noBuffer k f hbuf, hbit3, rfl⟩, fun hbuf t ht => ?_⟩
    rcases shiftOut_next ht with ⟨-, -, rfl⟩ | ⟨hnobuf, -⟩
    · exact hkeeps (emit _ s)
    · cases hbuf.symm.trans hnobuf
  · obtain ⟨-, -, -, hbit4⟩ := event_status s
    exact ⟨_, (commandRejectedExactlyWhenCauseHolds s w cs hap hcmd).1 hcause, hbit4, rfl⟩

/-! ## After a failed INIT (R163, R181) -/

/-- A failed INIT is not forgotten: F_CONFIG or F_RESOURCE stays set until reset (R26, R170). -/
theorem step_keeps_initFault {s t : State} (hfault : s.fConfig = true ∨ s.fResource = true)
    (h : step s = .next t) (hrst : nextChoice s ≠ .rst) :
    t.fConfig = true ∨ t.fResource = true := by
  obtain ⟨-, hs1, hs2, -⟩ := statusWordHasItsBits s
  obtain ⟨-, ht1, ht2, -⟩ := statusWordHasItsBits t
  have hkept := statusBitsAreSticky s t h hrst
  rw [← hs1, ← hs2] at hfault
  rw [← ht1, ← ht2]
  exact hfault.imp (hkept 1 (by decide)) (hkept 2 (by decide))

/-- A block whose INIT failed is not started, and its scanner rests (R26, R120). -/
theorem BlockInv.blank_of_initFault {s : State} (h : BlockInv s)
    (hfault : s.fConfig = true ∨ s.fResource = true) : s.started = false ∧ s.scannerAtRest := by
  obtain ⟨hconfig, hresource, -⟩ := h.oneOutcome
  have hs : s.started = false := Bool.eq_false_of_not_eq_true fun hs =>
    hfault.elim (fun hf => hconfig ⟨hs, hf⟩) fun hf => hresource ⟨hs, hf⟩
  exact ⟨hs, h.resting (.inl hs)⟩

/-- Settles O47: the invariant holds after the step too, and there it says the panel is blank. -/
theorem fatalInitLeavesPanelBlank : Obligations.FatalInitLeavesPanelBlank := by
  intro s t hinv hfault h hrst
  have hfault' := step_keeps_initFault hfault h hrst
  exact ⟨hfault', (stepKeepsInvariant s t hinv h).blank_of_initFault hfault'⟩

end Sys2Proof.Machine
end

section
/-!
The scanner and the frame-copy engine do not see each other's registers (spec/60_exceptions.md
R179): replacing those of the one before a micro-step of the other, or after it, gives the same
outcome.
-/

namespace Sys2Proof.Machine

section
variable (s a : State)

/-! ## The scanner's micro-steps -/

theorem withEngineRegs_ite (p : Prop) [Decidable p] (t u : State) :
    withEngineRegs (if p then t else u) a =
      if p then withEngineRegs t a else withEngineRegs u a :=
  apply_ite (fun v => withEngineRegs v a) _ _ _

/-- A SHIFT whose sequel does not see the engine's registers does not see them. -/
theorem shiftOut_withEngineRegs {f : State → State}
    (hf : ∀ t, f (withEngineRegs t a) = withEngineRegs (f t) a) (k : Nat) :
    shiftOut k f (withEngineRegs s a) = onNext (fun t => withEngineRegs t a) (shiftOut k f s) := by
  have hsent (v : Byte) := hf (emit (.tx v) s)
  have hread : dmemRead (withEngineRegs s a) (shiftAddr (withEngineRegs s a) k) =
      dmemRead s (shiftAddr s k) := rfl
  unfold shiftOut
  rw [onNext_ite, hread]
  cases dmemRead s (shiftAddr s k) with
  | none => rfl
  | some v => exact if_congr Iff.rfl (congrArg _ (hsent v)) rfl

theorem afterLastGroup_withEngineRegs :
    afterLastGroup (withEngineRegs s a) = withEngineRegs (afterLastGroup s) a := by
  unfold afterLastGroup
  rw [withEngineRegs_ite, withEngineRegs_ite]
  rfl

theorem waitPeriod_withEngineRegs :
    waitPeriod (withEngineRegs s a) = withEngineRegs (waitPeriod s) a := by
  have hcfg : (withEngineRegs s a).cfg = s.cfg := rfl
  unfold waitPeriod
  rw [withEngineRegs_ite, hcfg]
  by_cases hlit : 0 < s.cfg.oeOnMs
  · rw [if_pos hlit, if_pos hlit]
    rfl
  · rw [if_neg hlit, if_neg hlit]
    rfl

/-! ## The frame-copy engine's micro-steps -/

theorem withScannerRegs_cfg : (withScannerRegs s a).cfg = s.cfg := rfl
theorem withScannerRegs_oi : (withScannerRegs s a).oi = s.oi := rfl
theorem copyIndex_withScannerRegs : copyIndex (withScannerRegs s a) = copyIndex s := rfl
theorem sheetAddr_withScannerRegs (j : Nat) :
    sheetAddr (withScannerRegs s a) j = sheetAddr s j := rfl
theorem fbAddr_withScannerRegs (j : Nat) : fbAddr (withScannerRegs s a) j = fbAddr s j := rfl
theorem iconShown_withScannerRegs (x : BitVec 2) :
    iconShown (withScannerRegs s a) x = iconShown s x := rfl
theorem dmemRead_withScannerRegs (j : Nat) :
    dmemRead (withScannerRegs s a) j = dmemRead s j := rfl

theorem dmemWrite_withScannerRegs (j : Nat) (v : Byte) :
    dmemWrite (withScannerRegs s a) j v =
      (dmemWrite s j v).map fun t => withScannerRegs t a := by
  unfold dmemWrite
  rw [apply_ite (Option.map fun t => withScannerRegs t a)]
  rfl

theorem withScannerRegs_ite (p : Prop) [Decidable p] (t u : State) :
    withScannerRegs (if p then t else u) a =
      if p then withScannerRegs t a else withScannerRegs u a :=
  apply_ite (fun v => withScannerRegs v a) _ _ _

theorem afterCopy_withScannerRegs :
    afterCopy (withScannerRegs s a) = withScannerRegs (afterCopy s) a := by
  unfold afterCopy
  rw [withScannerRegs_ite]
  rfl

theorem afterOverlay_withScannerRegs :
    afterOverlay (withScannerRegs s a) = withScannerRegs (afterOverlay s) a := by
  unfold afterOverlay
  rw [withScannerRegs_ite]
  rfl

theorem execCopyb_withScannerRegs :
    execCopyb (withScannerRegs s a) = onNext (fun t => withScannerRegs t a) (execCopyb s) := by
  simp only [execCopyb, withScannerRegs_cfg, copyIndex_withScannerRegs, sheetAddr_withScannerRegs,
    fbAddr_withScannerRegs, dmemWrite_withScannerRegs]
  cases sheetRead s.cfg (sheetAddr s (copyIndex s).toNat) with
  | none => rfl
  | some v =>
    dsimp only
    cases dmemWrite s (fbAddr s (copyIndex s).toNat) v with
    | none => rfl
    | some t => exact congrArg Host.Outcome.next (afterCopy_withScannerRegs t a)

theorem execOvlb_withScannerRegs :
    execOvlb (withScannerRegs s a) = onNext (fun t => withScannerRegs t a) (execOvlb s) := by
  unfold execOvlb
  rw [withScannerRegs_cfg, withScannerRegs_oi, iconShown_withScannerRegs]
  simp only [fbAddr_withScannerRegs, sheetAddr_withScannerRegs, dmemRead_withScannerRegs,
    dmemWrite_withScannerRegs]
  cases iconOf s.cfg s.oi with
  | none => rfl
  | some x =>
    dsimp only
    cases dmemRead s (fbAddr s x.byte) with
    | none => rfl
    | some old =>
      dsimp only
      cases (if iconShown s s.oi then some 0 else sheetRead s.cfg (sheetAddr s x.byte)) with
      | none => rfl
      | some base =>
        dsimp only
        cases dmemWrite s (fbAddr s x.byte) (overlayByte (iconShown s s.oi) x.mask old base) with
        | none => rfl
        | some t => exact congrArg Host.Outcome.next (afterOverlay_withScannerRegs t a)

end

/-! ## Every micro-step -/

/-- Settles O45. -/
theorem scannerIgnoresEngineRegisters : Obligations.ScannerIgnoresEngineRegisters := by
  intro s a i hi
  simp only [scannerOps, List.mem_cons, List.not_mem_nil, or_false] at hi
  rcases hi with rfl | rfl | rfl | rfl | rfl | rfl | rfl | rfl | rfl | rfl | rfl | rfl
  · exact shiftOut_withEngineRegs s a (f := gotoPhase 1) (fun _ => rfl) 3
  · exact shiftOut_withEngineRegs s a (f := gotoPhase 2) (fun _ => rfl) 2
  · exact shiftOut_withEngineRegs s a (f := gotoPhase 3) (fun _ => rfl) 1
  · exact shiftOut_withEngineRegs s a (fun t => afterLastGroup_withEngineRegs t a) 0
  iterate 7 · rfl
  · exact congrArg (Host.Outcome.next ∘ gotoPhase 0) (waitPeriod_withEngineRegs s a)

/-- Settles O46. -/
theorem engineIgnoresScannerRegisters : Obligations.EngineIgnoresScannerRegisters := by
  intro s a i hi
  simp only [engineOps, List.mem_cons, List.not_mem_nil, or_false] at hi
  rcases hi with rfl | rfl
  · exact execCopyb_withScannerRegs s a
  · exact execOvlb_withScannerRegs s a

end Sys2Proof.Machine
end

section
/-!
Reset and the launch premise (spec/70_reset_and_hazards.md R190, R206, R207): rst, the configuration
that no step writes, and the state that SETBUF and INIT leave after reset.
-/

namespace Sys2Proof.Machine

/-- Settles O4. -/
theorem rstRestoresResetValues : Obligations.RstRestoresResetValues :=
  fun s cs => step_cons .rst cs s

/-- Settles O35. -/
theorem stepKeepsConfiguration : Obligations.StepKeepsConfiguration :=
  fun _ _ h => step_cfg h

/-! ## The commands answered OK -/

/-- SETBUF is answered OK exactly where it registers the buffer (R150). -/
theorem setbuf_answersOk_iff {ptr : Addr} {s t : State} :
    exec (.setbuf ptr) s = .next t ∧ t.rsp = some .ok ↔
      windowInDmem s.cfg ptr = true ∧
        t = respond .ok { s with scanBase := ptr, bufValid := true } := by
  constructor
  · rintro ⟨h, hok⟩
    rcases execSetbuf_next h with ⟨-, rfl⟩ | hregisters
    · cases hok
    · exact hregisters
  · rintro ⟨hwindow, rfl⟩
    exact ⟨if_pos hwindow, rfl⟩

/-- INIT is answered OK exactly where it starts the block (R82). -/
theorem init_answersOk_iff {s t : State} :
    exec .init s = .next t ∧ t.rsp = some .ok ↔
      initAdmitted s = true ∧ catalogValid s.cfg = true ∧ s.platOk = true ∧
        ∃ e, catEntry s.cfg s.cfg.defaultAnim = some e ∧ t = respond .ok (startBlock e s) := by
  constructor
  · rintro ⟨h, hok⟩
    rcases execInit_next h with ⟨-, rfl⟩ | ⟨-, -, rfl⟩ | ⟨-, -, -, rfl⟩ | hstarts
    · cases hok
    · cases hok
    · cases hok
    · exact hstarts
  · rintro ⟨hadm, hcat, hplat, e, he, rfl⟩
    exact ⟨execInit_of_ok hadm hcat hplat he, rfl⟩

/-! ## Booted(ptr) -/

/-- The state after reset with the buffer at `ptr` registered and SETBUF answered. -/
def State.registered (c : Config) (m : List Host.Cell) (ptr : Addr) : State :=
  respond .ok { State.resetWith c m with scanBase := ptr, bufValid := true }

/-- `State.booted` names what INIT leaves of `State.registered`: the CURSOR and ACC that INIT clears
are clear after reset. -/
theorem booted_eq_some_iff {c : Config} {m : List Host.Cell} {ptr : Addr} {s : State} :
    State.booted c m ptr = some s ↔
      windowInDmem c ptr = true ∧ catalogValid c = true ∧
        ∃ e, catEntry c c.defaultAnim = some e ∧
          s = respond .ok (startBlock e (State.registered c m ptr)) := by
  constructor
  · intro h
    unfold State.booted at h
    split at h
    · rename_i hchecks
      obtain ⟨hwindow, hcat⟩ := Bool.and_eq_true_iff.1 hchecks
      split at h
      · cases h
      · exact ⟨hwindow, hcat, _, ‹_›, (Option.some.inj h).symm⟩
    · cases h
  · rintro ⟨hwindow, hcat, e, he, rfl⟩
    rw [State.booted, hwindow, hcat, he]
    rfl

/-- After reset INIT is admitted and plat_ok is 1 (log 15), so the checks left are those of
`State.booted`. -/
theorem booted_iff_answeredOk {c : Config} {m : List Host.Cell} {ptr : Addr} {s : State} :
    State.booted c m ptr = some s ↔
      ∃ u, exec (.setbuf ptr) (State.resetWith c m) = .next u ∧ u.rsp = some .ok ∧
        exec .init u = .next s ∧ s.rsp = some .ok := by
  rw [booted_eq_some_iff]
  constructor
  · rintro ⟨hwindow, hcat, hentry⟩
    obtain ⟨hset, hsetOk⟩ := setbuf_answersOk_iff (s := State.resetWith c m).2 ⟨hwindow, rfl⟩
    obtain ⟨hinit, hinitOk⟩ :=
      init_answersOk_iff (s := State.registered c m ptr).2 ⟨rfl, hcat, rfl, hentry⟩
    exact ⟨_, hset, hsetOk, hinit, hinitOk⟩
  · rintro ⟨u, hset, hsetOk, hinit⟩
    obtain ⟨hwindow, rfl⟩ := setbuf_answersOk_iff.1 ⟨hset, hsetOk⟩
    obtain ⟨-, hcat, -, hentry⟩ := init_answersOk_iff.1 hinit
    exact ⟨hwindow, hcat, hentry⟩

/-- Settles O5. -/
theorem setbufThenInitBoots : Obligations.SetbufThenInitBoots := by
  intro c m ptr s
  refine ⟨booted_iff_answeredOk, fun h => ?_⟩
  obtain ⟨hwindow, hcat, e, he, rfl⟩ := booted_eq_some_iff.1 h
  have hstatus : (respond .ok (startBlock e (State.registered c m ptr))).status = 1 := by
    simp [State.status, State.registered, State.resetWith]
  exact ⟨hcat, of_decide_eq_true hwindow, ⟨e, he, rfl⟩, hstatus, rfl, rfl, rfl, rfl, rfl, rfl, rfl,
    rfl, rfl, resetWith_scannerAtRest c m⟩

end Sys2Proof.Machine
end
